-- ==== Sys2Proof/Word.lean ====
section
/-! DEFINITION. The bit-vector types of the CRC core, one name per width the spec states. -/

namespace Sys2Proof

/-- A register of the window, a command word, a bus datum: 32 bits (rule R22, `W_ACC` of rule R6). -/
abbrev Word := BitVec 32

/-- An input byte, a table index, an opcode: 8 bits (rule R81). -/
abbrev Byte := BitVec 8

/-- A value of the CCITT core: 16 bits (rules R31, R32, R36). -/
abbrev Half := BitVec 16

/-- The reflect unit's operand and result: 64 bits (`W_RFL` of rule R6, rules R33, R34). -/
abbrev DWord := BitVec 64

/-- A byte offset inside the 4096-byte register window: 12 bits, `0 <= off < 0x1000` (rule R60). -/
abbrev Offset := BitVec 12

/-- The N field of a command word: 7 bits (rule R81). -/
abbrev Count := BitVec 7

end Sys2Proof
end

