-- ==== Sys2Proof/Syntax.lean ====
section
/-! DEFINITION. The ten commands of the block: one constructor per row of spec/opcode_table.json. -/

namespace Sys2Proof

/-- The commands of rule R84. An operand of a constructor is a field of the command word (rule R82);
every other operand of a command is a register that the command's rule names. -/
inductive Instr where
  /-- CLRERR, OPC 0x01 (rule R170). -/
  | clrerr
  /-- REFLECT n, OPC 0x02; `n` is the N field (rule R101). -/
  | reflect (n : Count)
  /-- CONFIGURE, OPC 0x10 (rule R113). -/
  | configure
  /-- CRC_BEGIN, OPC 0x20 (rule R130). -/
  | crcBegin
  /-- CRC_BYTE b, OPC 0x21; `b` is the IMM8 field (rule R132). -/
  | crcByte (b : Byte)
  /-- CRC_END, OPC 0x22 (rule R135). -/
  | crcEnd
  /-- CCITT_BEGIN, OPC 0x30 (rule R152). -/
  | ccittBegin
  /-- CCITT_BYTE b, OPC 0x31; `b` is the IMM8 field (rule R153). -/
  | ccittByte (b : Byte)
  /-- CCITT_END_RAW, OPC 0x32 (rule R155). -/
  | ccittEndRaw
  /-- CCITT_END_FINAL, OPC 0x33 (rule R156). -/
  | ccittEndFinal
  deriving DecidableEq, Repr

end Sys2Proof
end

