-- ==== Sys2Proof/WellFormed.lean ====
section
/-! DEFINITION. Which commands as syntax have an encoding. The one check is REFLECT's bit count (rule R82). -/

namespace Sys2Proof

/-- `N` is legal only for `0 <= n <= 64`; every other operand is legal at every value of its field (rule R82). -/
def Instr.wf : Instr → Bool
  | .clrerr => true
  | .reflect n => decide (n.toNat ≤ 64)
  | .configure => true
  | .crcBegin => true
  | .crcByte _ => true
  | .crcEnd => true
  | .ccittBegin => true
  | .ccittByte _ => true
  | .ccittEndRaw => true
  | .ccittEndFinal => true

/-- The command has an encoding. -/
abbrev Instr.WellFormed (i : Instr) : Prop := i.wf = true

end Sys2Proof
end

