-- ==== Sys2Proof/Decode.lean ====
section
/-! DEFINITION. The command word: its fields, the decoder, and the encoder written from the same formats
(30_encoding.md rules R80 to R86). -/

namespace Sys2Proof

/-- OPC, bits 7:0 (rule R81). -/
def opcOf (w : Word) : Byte := w.extractLsb' 0 8

/-- IMM8, bits 15:8 (rule R81). -/
def imm8Of (w : Word) : Byte := w.extractLsb' 8 8

/-- N, bits 22:16 (rule R81). -/
def countOf (w : Word) : Count := w.extractLsb' 16 7

/-- RSV, bits 31:23 (rule R81). -/
def rsvOf (w : Word) : BitVec 9 := w.extractLsb' 23 9

/-- Why a word is no command: the cases of rule R85. -/
inductive DecodeError where
  /-- RSV is not zero. -/
  | reservedBits
  /-- OPC is not in the table of rule R84. -/
  | unassignedOpcode
  /-- The format has no byte operand and IMM8 is not zero. -/
  | imm8NotZero
  /-- The format has no bit count and N is not zero. -/
  | countNotZero
  /-- REFLECT with N > 64. -/
  | countAbove64
  deriving DecidableEq, Repr

/-- Format C0, no operand: IMM8 and N are zero (rule R83). -/
def decodeC0 (imm8 : Byte) (n : Count) (i : Instr) : Except DecodeError Instr :=
  if imm8 ≠ 0 then .error .imm8NotZero
  else if n ≠ 0 then .error .countNotZero
  else .ok i

/-- Format CB, byte operand: N is zero (rule R83). -/
def decodeCB (imm8 : Byte) (n : Count) (mk : Byte → Instr) : Except DecodeError Instr :=
  if n ≠ 0 then .error .countNotZero
  else .ok (mk imm8)

/-- Format CN, bit count: IMM8 is zero and N is 0 to 64 (rule R83). -/
def decodeCN (imm8 : Byte) (n : Count) (mk : Count → Instr) : Except DecodeError Instr :=
  if imm8 ≠ 0 then .error .imm8NotZero
  else if 64 < n.toNat then .error .countAbove64
  else .ok (mk n)

/-- `decode(w)` of rule R80, naming the reason of a failure (rule R85). -/
def decodeOrReason (w : Word) : Except DecodeError Instr :=
  let imm8 := imm8Of w
  let n := countOf w
  if rsvOf w ≠ 0 then .error .reservedBits
  else
    match (opcOf w).toNat with
    | 0x01 => decodeC0 imm8 n .clrerr
    | 0x02 => decodeCN imm8 n .reflect
    | 0x10 => decodeC0 imm8 n .configure
    | 0x20 => decodeC0 imm8 n .crcBegin
    | 0x21 => decodeCB imm8 n .crcByte
    | 0x22 => decodeC0 imm8 n .crcEnd
    | 0x30 => decodeC0 imm8 n .ccittBegin
    | 0x31 => decodeCB imm8 n .ccittByte
    | 0x32 => decodeC0 imm8 n .ccittEndRaw
    | 0x33 => decodeC0 imm8 n .ccittEndFinal
    | _ => .error .unassignedOpcode

/-- The command a word selects, or none where the block raises ILLEGAL_CMD (rule R80). It reads only `w`. -/
def decode (w : Word) : Option Instr := (decodeOrReason w).toOption

/-- The assigned opcodes (rule R84). -/
def opcode : Instr → Byte
  | .clrerr => 0x01
  | .reflect _ => 0x02
  | .configure => 0x10
  | .crcBegin => 0x20
  | .crcByte _ => 0x21
  | .crcEnd => 0x22
  | .ccittBegin => 0x30
  | .ccittByte _ => 0x31
  | .ccittEndRaw => 0x32
  | .ccittEndFinal => 0x33

/-- A command word from its fields, most significant first, RSV zero (rules R81, R83). -/
def commandWord (n : Count) (imm8 : Byte) (opc : Byte) : Word :=
  0#9 ++ n ++ imm8 ++ opc

/-- The word of a command (rules R83, R84). On an ill-formed REFLECT it is the word with that N field,
which is illegal (rule R85; log entry 5). -/
def encode (i : Instr) : Word :=
  match i with
  | .clrerr => commandWord 0 0 (opcode i)
  | .reflect n => commandWord n 0 (opcode i)
  | .configure => commandWord 0 0 (opcode i)
  | .crcBegin => commandWord 0 0 (opcode i)
  | .crcByte b => commandWord 0 b (opcode i)
  | .crcEnd => commandWord 0 0 (opcode i)
  | .ccittBegin => commandWord 0 0 (opcode i)
  | .ccittByte b => commandWord 0 b (opcode i)
  | .ccittEndRaw => commandWord 0 0 (opcode i)
  | .ccittEndFinal => commandWord 0 0 (opcode i)

/-- The 32-bit word of a table row's `nbits` bits `w`, the bits above `nbits` zero. A command is exactly one
word (rule R86) and moves over the bus as one word, so no byte order enters (rule R64). -/
def tableWord (nbits w : Nat) : Word := BitVec.ofNat 32 (w % 2 ^ nbits)

/-- What the decoder reads from a table row's bits. A command has 32 bits (rule R83), so more than that is none. -/
def decodeTableWord (nbits w : Nat) : Option Instr :=
  if nbits ≤ 32 then decode (tableWord nbits w) else none

end Sys2Proof
end

