-- ==== Sys2Proof/Config.lean ====
section
/-! DEFINITION. What the spec leaves to the platform or to the implementation (rule R6), and the values it
leaves unspecified. No constant here has a body, so a proof holds whatever they are. -/

namespace Sys2Proof.Config

/-- The number of the 4096-byte page where the platform places the register window (rule R6, decision D2). -/
opaque crcPage : Nat

/-- `CRC_BASE`: a 4096-byte-aligned physical address (rule R6). -/
def crcBase : Nat := 4096 * crcPage

/-- `CMD_LATENCY`: for how many cycles a command holds the host's CMD write (rules R6, R218).
Timing only: the step function never reads it (log entry 7). -/
opaque cmdLatency : Instr → Nat

/-- `unspecifiedTable k i`: what entry `i` of TABLE holds after the `k`-th time its contents became
unspecified, that is after a reset (rules R35, R210; 93_implementation_defined.md U5 "any value"). A free value,
log entry 2. -/
opaque unspecifiedTable : Nat → Byte → Word

end Sys2Proof.Config
end

