-- ==== Sys2Proof/Machine/Table.lean ====
section
/-! DEFINITION. The engine table RAM as data: 256 entries of 32 bits (rule R35). -/

namespace Sys2Proof.Machine

/-- TABLE as stored: `TABLE[0..255]` (rule R35, `TABLE_ENTRIES` of rule R6). -/
abbrev CrcTable := Vector Word 256

/-- The table whose entry `i` is `f i`. -/
def tableOf (f : Byte → Word) : CrcTable :=
  ⟨((List.range 256).map fun n => f (BitVec.ofNat 8 n)).toArray, by simp⟩

/-- `TABLE[i]`: the index is an 8-bit value, so the read is always in range (rule R75). -/
def entryOf (t : CrcTable) (i : Byte) : Word := t[i.toNat]'(i.isLt)

/-- The contents TABLE has when the spec leaves them unspecified, the `k`-th time (rules R35, R210). -/
def unspecifiedContents (k : Nat) : CrcTable := tableOf (Config.unspecifiedTable k)

end Sys2Proof.Machine
end

