-- ==== Sys2Proof/Machine/State.lean ====
section
/-! DEFINITION. The state of the block (10_state.md rule R20), the host's side of the bus as plain data, the
reasons a step can stop, and the state right after reset (rules R39, R210). -/

namespace Sys2Proof.Machine

/-- The error codes of STATUS.ERR (rule R180). Codes 0x07 to 0xFF are never produced (93 U11). -/
inductive ErrCode where
  /-- 0x00: no error recorded. -/
  | none
  /-- 0x01: the word written to CMD does not decode. -/
  | illegalCmd
  /-- 0x02: CONFIGURE with an ORDER that is not admitted. -/
  | badOrder
  /-- 0x03: CRC_BEGIN while STATUS.TVALID = 0. -/
  | notConfigured
  /-- 0x04: a BYTE or END command with no session open on its accumulator. -/
  | noSession
  /-- 0x05: CONFIGURE while STATUS.SESS = 1. -/
  | cfgBusy
  /-- 0x06: a host access that rule R62 forbids. -/
  | busErr
  deriving DecidableEq, Repr

/-- The fields of CFG_CTRL and of ACT_CTRL (rules R24, R26). The reserved bits are not stored: they read 0. -/
structure Ctrl where
  /-- ORDER, bits 5:0. -/
  order : BitVec 6
  /-- REFIN, bit 8. -/
  refin : Bool
  /-- REFOUT, bit 9. -/
  refout : Bool
  deriving DecidableEq, Repr

/-- A CrcParameters set: the four registers CFG_* (rules R24, R25) or ACT_* (rule R26). -/
structure Params where
  ctrl : Ctrl
  poly : Word
  init : Word
  xorout : Word
  deriving DecidableEq, Repr

/-- A host access `(kind, off, size, data)` (rule R60). The data of a read does not exist. -/
inductive Access where
  /-- A read of `size` bytes at byte offset `off` from CRC_BASE. -/
  | read (off : Offset) (size : Nat)
  /-- A write of `size` bytes at byte offset `off` from CRC_BASE. -/
  | write (off : Offset) (size : Nat) (data : Word)
  deriving DecidableEq, Repr

/-- What reaches the block from outside, one at a time (rules R12, R71, R210). -/
inductive HostEvent where
  /-- A host access. -/
  | access (a : Access)
  /-- A reset, between accesses. -/
  | reset
  /-- An access during which a reset arrives: its effects are discarded (rule R210, 93 U18). -/
  | resetDuring (a : Access)
  deriving DecidableEq, Repr

/-- What the host sees of one access (rules R61, R62, R219). -/
inductive Response where
  /-- The value a legal read returns. -/
  | data (v : Word)
  /-- A legal write completed; a command error is not visible here, only in STATUS (rule R186). -/
  | done
  /-- The error response of a bus-error access; a read returns no data (rule R62). -/
  | busErr
  deriving DecidableEq, Repr

/-- The state. The first group is the block's architectural state, exactly that of rule R20 (CROM is constant
and is `Sys2Proof.Machine.crom`; CMD has no storage, rule R23). The second group is the model's own: the
host's access sequence and what the host saw, and the counter that the free values of TABLE are drawn with. -/
structure State where
  /-- CFG_CTRL, CFG_POLY, CFG_INIT, CFG_XOROUT: the staging parameters (rules R24, R25). -/
  cfg : Params
  /-- ACT_CTRL, ACT_POLY, ACT_INIT, ACT_XOROUT: the active parameters (rule R26). -/
  act : Params
  /-- TABLE[0..255], 32 bits each (rule R35). -/
  table : CrcTable
  /-- STATUS.TVALID (rule R27). -/
  tvalid : Bool
  /-- STATUS.SESS (rule R27). -/
  sess : Bool
  /-- STATUS.CSESS (rule R27). -/
  csess : Bool
  /-- ACC (rule R29). -/
  acc : Word
  /-- RESULT (rule R30). -/
  result : Word
  /-- CACC, bits 15:0 (rule R31). -/
  cacc : Half
  /-- CRESULT, bits 15:0 (rule R32). -/
  cresult : Half
  /-- RFL_IN_LO (rule R33). -/
  rflInLo : Word
  /-- RFL_IN_HI (rule R33). -/
  rflInHi : Word
  /-- RFL_OUT_LO (rule R34). -/
  rflOutLo : Word
  /-- RFL_OUT_HI (rule R34). -/
  rflOutHi : Word
  /-- STATUS.ERR (rules R27, R180). -/
  err : ErrCode
  /-- ERRINFO (rule R28). -/
  errinfo : Word
  /-- The model's own: the host's accesses and the resets not yet performed, in the order of arrival (rule R71).
  DESIGN CHOICE, log entry 1. -/
  inbox : List HostEvent
  /-- The model's own: what the host saw of each access performed, oldest first (rule R219).
  DESIGN CHOICE, log entry 1. -/
  outbox : List Response
  /-- The model's own: how many times TABLE's contents have become unspecified. DESIGN CHOICE, log entry 2. -/
  unspecCount : Nat
  deriving DecidableEq, Repr

/-- No step of this block stops with a fault: an error is recorded and the block goes on (rule R183), and
nothing the host does can make it hang (rule R196). So the type has no constructor. DEDUCED, log entry 4. -/
inductive Fault where
  deriving DecidableEq, Repr

/-- The reasons a step can have no meaning. -/
inductive Refusal where
  /-- Raised by exec's arm of a command that has no meaning yet, with its mnemonic; safe. No arm raises it:
  every command has its meaning. -/
  | notModelled (mnemonic : String)
  deriving DecidableEq, Repr

/-- The reset value of a parameter set: each register 0x00000000 (rules R24 to R26). -/
def Params.reset : Params :=
  { ctrl := { order := 0, refin := false, refout := false }, poly := 0, init := 0, xorout := 0 }

/-- The state right after reset (rules R39, R210): every register 0, TABLE unspecified. -/
def State.reset : State :=
  { cfg := Params.reset
    act := Params.reset
    table := unspecifiedContents 0
    tvalid := false
    sess := false
    csess := false
    acc := 0
    result := 0
    cacc := 0
    cresult := 0
    rflInLo := 0
    rflInHi := 0
    rflOutLo := 0
    rflOutHi := 0
    err := .none
    errinfo := 0
    inbox := []
    outbox := []
    unspecCount := 1 }

end Sys2Proof.Machine
end

