-- ==== Sys2Proof/Machine/Flags.lean ====
section
/-! DEFINITION. STATUS: its word as the host reads it, and the writes of its flags (rule R27). The block has no
condition codes and no arithmetic flags (rule R37). -/

namespace Sys2Proof.Machine

/-- The code of an error in STATUS.ERR (rule R180). -/
def ErrCode.code : ErrCode → Byte
  | .none => 0x00
  | .illegalCmd => 0x01
  | .badOrder => 0x02
  | .notConfigured => 0x03
  | .noSession => 0x04
  | .cfgBusy => 0x05
  | .busErr => 0x06

/-- STATUS as one word: ERR in bits 15:8, CSESS, SESS and TVALID in bits 2, 1 and 0, zero elsewhere (rule R27). -/
def statusWord (s : State) : Word :=
  0#16 ++ s.err.code ++ 0#5 ++ BitVec.ofBool s.csess ++ BitVec.ofBool s.sess ++ BitVec.ofBool s.tvalid

/-- STATUS.TVALID <- 1 (rule R113). -/
def setTvalid (s : State) : State := { s with tvalid := true }

/-- STATUS.SESS <- 1 (rule R130). -/
def openSession (s : State) : State := { s with sess := true }

/-- STATUS.SESS <- 0 (rule R135). -/
def closeSession (s : State) : State := { s with sess := false }

/-- STATUS.CSESS <- 1 (rule R152). -/
def openCcitt (s : State) : State := { s with csess := true }

/-- STATUS.CSESS <- 0 (rules R155, R156). -/
def closeCcitt (s : State) : State := { s with csess := false }

end Sys2Proof.Machine
end

