-- ==== Sys2Proof/Machine/Operands.lean ====
section
/-! DEFINITION. The operand forms of the commands: masks, the control registers' word form, the admitted
orders, latching, and the 64-bit views of the reflect registers. -/

namespace Sys2Proof.Machine

/-- `mask(o) = 2^o - 1` (rule R9), in a 32-bit word. -/
def mask (o : Nat) : Word := BitVec.ofNat 32 (2 ^ o - 1)

/-- CFG_CTRL or ACT_CTRL as one word: ORDER in bits 5:0, REFIN bit 8, REFOUT bit 9, zero elsewhere (rule R24). -/
def Ctrl.toWord (c : Ctrl) : Word :=
  0#22 ++ BitVec.ofBool c.refout ++ BitVec.ofBool c.refin ++ 0#2 ++ c.order

/-- What a write of `w` to CFG_CTRL stores: the fields of `w & 0x0000033F` (rule R24). -/
def Ctrl.ofWord (w : Word) : Ctrl :=
  { order := w.extractLsb' 0 6, refin := w.getLsbD 8, refout := w.getLsbD 9 }

/-- `order`, as a number (rule R26). -/
def Params.order (p : Params) : Nat := p.ctrl.order.toNat

/-- `ADMIT_ORDERS`: the orders CONFIGURE accepts (rules R6, R111), fixed for this hardware (log entry 8). -/
def admitOrders : List Nat := [8, 16, 24, 32]

/-- The order is in `ADMIT_ORDERS`. -/
def orderAdmitted (o : Nat) : Bool := admitOrders.contains o

/-- What CONFIGURE latches of a staged set: polynomial, initial value and final XOR masked to order bits
(rule R112). -/
def latch (p : Params) : Params :=
  { ctrl := p.ctrl
    poly := p.poly &&& mask p.order
    init := p.init &&& mask p.order
    xorout := p.xorout &&& mask p.order }

/-- `x[RFL_IN]`, that is `{RFL_IN_HI, RFL_IN_LO}` (rule R33). -/
def rflIn (s : State) : DWord := s.rflInHi ++ s.rflInLo

/-- `x[RFL_OUT] <- v`: the low half to RFL_OUT_LO, the high half to RFL_OUT_HI (rule R34). -/
def writeRflOut (v : DWord) (s : State) : State :=
  { s with rflOutLo := v.extractLsb' 0 32, rflOutHi := v.extractLsb' 32 32 }

end Sys2Proof.Machine
end

