-- ==== Sys2Proof/Machine/RegMap.lean ====
section
/-! DEFINITION. The register map of the 4096-byte window: which register an offset reaches, how the host may
access it, what a read gives and what a write stores (rules R22, R61, R63). -/

namespace Sys2Proof.Machine

/-- The registers that have storage (rule R22). -/
inductive Reg where
  | status | errinfo
  | cfgCtrl | cfgPoly | cfgInit | cfgXorout
  | actCtrl | actPoly | actInit | actXorout
  | acc | result | cacc | cresult
  | rflInLo | rflInHi | rflOutLo | rflOutHi
  deriving DecidableEq, Repr

/-- What a mapped offset reaches (rule R22). -/
inductive Target where
  /-- CMD: no storage; a write executes one command (rule R23). -/
  | cmd
  /-- A register with storage. -/
  | reg (r : Reg)
  /-- TABLE[i]. -/
  | table (i : Byte)
  /-- CROM[i]. -/
  | crom (i : Byte)
  deriving DecidableEq, Repr

/-- The host's access to a register (rule R22). -/
inductive HostRights where
  | rw | ro | wo
  deriving DecidableEq, Repr

/-- Whether a host access reads or writes. -/
inductive AccessKind where
  | read | write
  deriving DecidableEq, Repr

/-- The offset of a register (rule R22). -/
def Reg.offset : Reg → Offset
  | .status => 0x004
  | .errinfo => 0x008
  | .cfgCtrl => 0x010
  | .cfgPoly => 0x014
  | .cfgInit => 0x018
  | .cfgXorout => 0x01C
  | .actCtrl => 0x020
  | .actPoly => 0x024
  | .actInit => 0x028
  | .actXorout => 0x02C
  | .acc => 0x030
  | .result => 0x034
  | .cacc => 0x038
  | .cresult => 0x03C
  | .rflInLo => 0x040
  | .rflInHi => 0x044
  | .rflOutLo => 0x048
  | .rflOutHi => 0x04C

/-- The offset of a target: CMD at 0x000, TABLE[i] at 0x400 + 4*i, CROM[i] at 0x800 + 4*i (rule R22). -/
def Target.offset : Target → Offset
  | .cmd => 0x000
  | .reg r => r.offset
  | .table i => BitVec.ofNat 12 (0x400 + 4 * i.toNat)
  | .crom i => BitVec.ofNat 12 (0x800 + 4 * i.toNat)

/-- The host's access to a register with storage (rule R22). -/
def Reg.rights : Reg → HostRights
  | .cfgCtrl | .cfgPoly | .cfgInit | .cfgXorout | .rflInLo | .rflInHi => .rw
  | .status | .errinfo | .actCtrl | .actPoly | .actInit | .actXorout
  | .acc | .result | .cacc | .cresult | .rflOutLo | .rflOutHi => .ro

/-- The host's access to a target (rule R22). -/
def Target.rights : Target → HostRights
  | .cmd => .wo
  | .reg r => r.rights
  | .table _ => .ro
  | .crom _ => .ro

/-- The registers below 0x400, by offset (rule R22). -/
def regAt (off : Nat) : Option Target :=
  match off with
  | 0x000 => some .cmd
  | 0x004 => some (.reg .status)
  | 0x008 => some (.reg .errinfo)
  | 0x010 => some (.reg .cfgCtrl)
  | 0x014 => some (.reg .cfgPoly)
  | 0x018 => some (.reg .cfgInit)
  | 0x01C => some (.reg .cfgXorout)
  | 0x020 => some (.reg .actCtrl)
  | 0x024 => some (.reg .actPoly)
  | 0x028 => some (.reg .actInit)
  | 0x02C => some (.reg .actXorout)
  | 0x030 => some (.reg .acc)
  | 0x034 => some (.reg .result)
  | 0x038 => some (.reg .cacc)
  | 0x03C => some (.reg .cresult)
  | 0x040 => some (.reg .rflInLo)
  | 0x044 => some (.reg .rflInHi)
  | 0x048 => some (.reg .rflOutLo)
  | 0x04C => some (.reg .rflOutHi)
  | _ => none

/-- What an aligned offset reaches, or none where it is unmapped (rule R22); the index of an array entry is
`(off - base) >> 2` (rule R61). -/
def targetAt (off : Offset) : Option Target :=
  if off.toNat < 0x400 then regAt off.toNat
  else if off.toNat < 0x800 then some (.table (BitVec.ofNat 8 ((off.toNat - 0x400) >>> 2)))
  else if off.toNat < 0xC00 then some (.crom (BitVec.ofNat 8 ((off.toNat - 0x800) >>> 2)))
  else none

/-- The 32-bit value of a register (rules R22 to R34). -/
def readReg (r : Reg) (s : State) : Word :=
  match r with
  | .status => statusWord s
  | .errinfo => s.errinfo
  | .cfgCtrl => s.cfg.ctrl.toWord
  | .cfgPoly => s.cfg.poly
  | .cfgInit => s.cfg.init
  | .cfgXorout => s.cfg.xorout
  | .actCtrl => s.act.ctrl.toWord
  | .actPoly => s.act.poly
  | .actInit => s.act.init
  | .actXorout => s.act.xorout
  | .acc => s.acc
  | .result => s.result
  | .cacc => s.cacc.setWidth 32
  | .cresult => s.cresult.setWidth 32
  | .rflInLo => s.rflInLo
  | .rflInHi => s.rflInHi
  | .rflOutLo => s.rflOutLo
  | .rflOutHi => s.rflOutHi

/-- The value a legal read returns (rule R61); none for CMD, which has no storage (rule R23). -/
def readTarget (t : Target) (s : State) : Option Word :=
  match t with
  | .cmd => none
  | .reg r => some (readReg r s)
  | .table i => some (entryOf s.table i)
  | .crom i => some ((crom i).setWidth 32)

/-- What a legal write to a register stores (rule R63). A read-only register keeps its value: such a write is
a bus error and changes no register (rule R62). -/
def storeReg (r : Reg) (v : Word) (s : State) : State :=
  match r with
  | .cfgCtrl => { s with cfg := { s.cfg with ctrl := Ctrl.ofWord v } }
  | .cfgPoly => { s with cfg := { s.cfg with poly := v } }
  | .cfgInit => { s with cfg := { s.cfg with init := v } }
  | .cfgXorout => { s with cfg := { s.cfg with xorout := v } }
  | .rflInLo => { s with rflInLo := v }
  | .rflInHi => { s with rflInHi := v }
  | .status | .errinfo | .actCtrl | .actPoly | .actInit | .actXorout
  | .acc | .result | .cacc | .cresult | .rflOutLo | .rflOutHi => s

/-- `check_bus` (rule R62), its conditions in the order listed: what the access reaches, or none where it
raises BUS_ERR. -/
def checkBus (k : AccessKind) (off : Offset) (size : Nat) (s : State) : Option Target :=
  if size ≠ 4 then none
  else if off &&& 3 ≠ 0 then none
  else
    match targetAt off with
    | none => none
    | some t =>
      if k = .write ∧ t.rights = .ro then none
      else if k = .read ∧ t.rights = .wo then none
      else
        match k, t with
        | .read, .table _ => if s.tvalid then some t else none
        | _, _ => some t

end Sys2Proof.Machine
end

