-- ==== Sys2Proof/Machine/Ops.lean ====
section
/-! DEFINITION. The shared operations of the block: recording an error and clearing it, answering the host,
and the reset event. -/

namespace Sys2Proof.Machine

/-- `raise Error(code, info)` (rule R182): the block's one way of taking an exception. The failing command or
access makes no change of its own; ERR and ERRINFO record the error only when no error is recorded.
Nothing else is saved and control goes nowhere (rule R187). -/
def raiseError (c : ErrCode) (info : Word) (s : State) : State :=
  if s.err = .none then { s with err := c, errinfo := info } else s

/-- What CLRERR does, the return from an error: ERR and ERRINFO cleared, nothing else restored (rules R170, R188). -/
def clearError (s : State) : State := { s with err := .none, errinfo := 0 }

/-- The host sees `r` for the access being performed (rule R219). -/
def reply (r : Response) (s : State) : State := { s with outbox := s.outbox ++ [r] }

/-- A bus-error access at `off`: BUS_ERR with the offset as information (rules R62, R181), and the error
response to the host (DEDUCED, log entry 4). -/
def busFault (off : Offset) (s : State) : State :=
  reply .busErr (raiseError .busErr (off.setWidth 32) s)

/-- The reset event (rule R210): every register takes its reset value and TABLE's contents become unspecified
again; what the host has still to send and what it saw are not the block's. -/
def applyReset (s : State) : State :=
  { State.reset with
    table := unspecifiedContents s.unspecCount
    unspecCount := s.unspecCount + 1
    inbox := s.inbox
    outbox := s.outbox }

end Sys2Proof.Machine
end

