-- ==== Sys2Proof/Machine/Ccitt.lean ====
section
/-! DEFINITION. The static reversed-table CRC-16-CCITT core: its step (rule R153), its commands (rules R152,
R153, R155, R156) and the whole-buffer functions (rule R157). -/

namespace Sys2Proof.Machine

/-- `ccittStep(c, b)` (rule R153). -/
def ccittStep (c : Half) (b : Byte) : Half := (c >>> 8) ^^^ crom ((c ^^^ b.setWidth 16).setWidth 8)

/-- `computeCrc16Raw(buf)` (rule R157). -/
def computeCrc16Raw (buf : List Byte) : Half := buf.foldl ccittStep 0xFFFF

/-- `computeCrc16Final(buf)` (rule R157). -/
def computeCrc16Final (buf : List Byte) : Half := computeCrc16Raw buf ^^^ 0xFFFF

/-- CCITT_BEGIN (rule R152). -/
def execCcittBegin (s : State) : Host.Outcome State Fault Refusal :=
  .next (openCcitt { s with cacc := 0xFFFF })

/-- CCITT_BYTE b (rule R153). -/
def execCcittByte (b : Byte) (s : State) : Host.Outcome State Fault Refusal :=
  if s.csess then .next { s with cacc := ccittStep s.cacc b }
  else .next (raiseError .noSession (encode (.ccittByte b)) s)

/-- CCITT_END_RAW (rule R155). -/
def execCcittEndRaw (s : State) : Host.Outcome State Fault Refusal :=
  if s.csess then .next (closeCcitt { s with cresult := s.cacc })
  else .next (raiseError .noSession (encode .ccittEndRaw) s)

/-- CCITT_END_FINAL (rule R156). -/
def execCcittEndFinal (s : State) : Host.Outcome State Fault Refusal :=
  if s.csess then .next (closeCcitt { s with cresult := s.cacc ^^^ 0xFFFF })
  else .next (raiseError .noSession (encode .ccittEndFinal) s)

end Sys2Proof.Machine
end

