-- ==== Sys2Proof/Machine/Reflect.lean ====
section
/-! DEFINITION. The bit-reflection unit: the function of rule R100 and the command REFLECT (rule R101). -/

namespace Sys2Proof.Machine

/-- The value of `r` after the loop of rule R100 has run for `k = 0` to `k - 1`. -/
def reflectLoop (v : DWord) (n : Nat) : Nat → DWord
  | 0 => 0
  | k + 1 =>
    if v.getLsbD k then reflectLoop v n k ||| (1#64 <<< (n - 1 - k)) else reflectLoop v n k

/-- `reflect(v, n)`: the low `n` bits in reverse order, zero above (rule R100). -/
def reflect (v : DWord) (n : Nat) : DWord := reflectLoop v n n

/-- The same function on a 32-bit value, as the generator and the engine call it, with `n <= 32` (rule R103). -/
def reflectWord (v : Word) (n : Nat) : Word := (reflect (v.setWidth 64) n).setWidth 32

/-- REFLECT n (rule R101). N above 64 has no encoding that decodes: ILLEGAL_CMD (rule R85). -/
def execReflect (n : Count) (s : State) : Host.Outcome State Fault Refusal :=
  if n.toNat ≤ 64 then .next (writeRflOut (reflect (rflIn s) n.toNat) s)
  else .next (raiseError .illegalCmd (encode (.reflect n)) s)

end Sys2Proof.Machine
end

