-- ==== Sys2Proof/Machine/TableGen.lean ====
section
/-! DEFINITION. The table generator (rule R114) and the command CONFIGURE (rules R111 to R113, R118). -/

namespace Sys2Proof.Machine

/-- One iteration of rule R114: shift left inside the order field, and XOR the polynomial if the bit shifted
out, bit `o - 1`, was set. -/
def genShift (o : Nat) (p : Word) (r : Word) : Word :=
  if r.getLsbD (o - 1) then ((r <<< 1) &&& mask o) ^^^ p else (r <<< 1) &&& mask o

/-- `k` iterations of rule R114. -/
def genLoop (o : Nat) (p : Word) : Nat → Word → Word
  | 0, r => r
  | k + 1, r => genLoop o p k (genShift o p r)

/-- The seed of rule R114: `i`, reflected over 8 bits if reflect-in is set, left-aligned in the order field. -/
def genSeed (i : Byte) (o : Nat) (ri : Bool) : Word :=
  (if ri then reflectWord (i.setWidth 32) 8 else i.setWidth 32) <<< (o - 8)

/-- `genEntry(i, o, p, ri)` (rule R114). -/
def genEntry (i : Byte) (o : Nat) (p : Word) (ri : Bool) : Word :=
  let r := genLoop o p 8 (genSeed i o ri)
  (if ri then reflectWord r o else r) &&& mask o

/-- `genTable(o, p, ri)` (rule R114). -/
def genTable (o : Nat) (p : Word) (ri : Bool) : CrcTable := tableOf fun i => genEntry i o p ri

/-- Entry `i` of the table that a parameter set generates: only order, polynomial and reflect-in enter (rule R116). -/
def paramEntry (p : Params) (i : Byte) : Word := genEntry i p.order p.poly p.ctrl.refin

/-- The writes of a successful CONFIGURE (rule R113): the masked staged set becomes active and TABLE is generated
from it, in one step. -/
def configure (s : State) : State :=
  let p := latch s.cfg
  setTvalid { s with act := p, table := genTable p.order p.poly p.ctrl.refin }

/-- CONFIGURE (rule R113): CFG_BUSY is tested before BAD_ORDER (rule R184). -/
def execConfigure (s : State) : Host.Outcome State Fault Refusal :=
  if s.sess then .next (raiseError .cfgBusy (encode .configure) s)
  else if orderAdmitted s.cfg.order then .next (configure s)
  else .next (raiseError .badOrder (encode .configure) s)

end Sys2Proof.Machine
end

