-- ==== Sys2Proof/Machine/Engine.lean ====
section
/-! DEFINITION. The parameterized CRC engine: its three functions (rules R130, R131, R134), its commands
(rules R130, R132, R135) and the whole-buffer function (rule R137). -/

namespace Sys2Proof.Machine

/-- `seed(init, o, ri)` of the active parameters (rule R130). -/
def seed (p : Params) : Word := if p.ctrl.refin then reflectWord p.init p.order else p.init

/-- `crcStep(acc, b)` with the table `T` (rule R131): index and result masked as rule R133 says. -/
def crcStep (p : Params) (T : Byte → Word) (acc : Word) (b : Byte) : Word :=
  if p.ctrl.refin then
    (acc >>> 8) ^^^ T (acc.setWidth 8 ^^^ b)
  else
    ((acc <<< 8) &&& mask p.order) ^^^ T ((acc >>> (p.order - 8)).setWidth 8 ^^^ b)

/-- `crcFinal(acc)` (rule R134). -/
def crcFinal (p : Params) (acc : Word) : Word :=
  ((if p.ctrl.refout ≠ p.ctrl.refin then reflectWord acc p.order else acc) ^^^ p.xorout) &&& mask p.order

/-- `parameterizedCrc(P, buf)` (rule R137), the parameters masked to order bits (rule R112). -/
def parameterizedCrc (P : Params) (buf : List Byte) : Word :=
  let p := latch P
  crcFinal p (buf.foldl (crcStep p (paramEntry p)) (seed p))

/-- CRC_BEGIN (rule R130). -/
def execCrcBegin (s : State) : Host.Outcome State Fault Refusal :=
  if s.tvalid then .next (openSession { s with acc := seed s.act })
  else .next (raiseError .notConfigured (encode .crcBegin) s)

/-- CRC_BYTE b (rule R132). -/
def execCrcByte (b : Byte) (s : State) : Host.Outcome State Fault Refusal :=
  if s.sess then .next { s with acc := crcStep s.act (entryOf s.table) s.acc b }
  else .next (raiseError .noSession (encode (.crcByte b)) s)

/-- CRC_END (rule R135). -/
def execCrcEnd (s : State) : Host.Outcome State Fault Refusal :=
  if s.sess then .next (closeSession { s with result := crcFinal s.act s.acc })
  else .next (raiseError .noSession (encode .crcEnd) s)

end Sys2Proof.Machine
end

