-- ==== Sys2Proof/Machine/System.lean ====
section
/-! DEFINITION. The system command CLRERR (rule R170). -/

namespace Sys2Proof.Machine

/-- CLRERR (rule R170). -/
def execClrerr (s : State) : Host.Outcome State Fault Refusal := .next (clearError s)

end Sys2Proof.Machine
end

