-- ==== Sys2Proof/Machine/Dispatch.lean ====
section
/-! DEFINITION. exec: one arm per command, each a direct call of the command's meaning. -/

namespace Sys2Proof.Machine

-- The command's effect on the block (30_encoding.md rule R80: execute the selected command's rule).
def exec (i : Instr) (s : State) : Host.Outcome State Fault Refusal :=
  match i with
  | .clrerr => Sys2Proof.Machine.execClrerr s
  | .reflect n => Sys2Proof.Machine.execReflect n s
  | .configure => Sys2Proof.Machine.execConfigure s
  | .crcBegin => Sys2Proof.Machine.execCrcBegin s
  | .crcByte b => Sys2Proof.Machine.execCrcByte b s
  | .crcEnd => Sys2Proof.Machine.execCrcEnd s
  | .ccittBegin => Sys2Proof.Machine.execCcittBegin s
  | .ccittByte b => Sys2Proof.Machine.execCcittByte b s
  | .ccittEndRaw => Sys2Proof.Machine.execCcittEndRaw s
  | .ccittEndFinal => Sys2Proof.Machine.execCcittEndFinal s

end Sys2Proof.Machine
end

