-- ==== Sys2Proof/Machine/Bus.lean ====
section
/-! DEFINITION. The bus: performing one host access or one reset (rules R60 to R63, R71, R210), and the place
of the window in the platform's address space (rules R6, R70). -/

namespace Sys2Proof.Machine

/-- A host write of `w` to CMD: the selected command runs, or ILLEGAL_CMD is raised with the word as
information (rules R23, R80, R171). -/
def runCommand (w : Word) (s : State) : Host.Outcome State Fault Refusal :=
  match decode w with
  | some i => exec i s
  | none => .next (raiseError .illegalCmd w s)

/-- `BusRead` (rule R61). No legal read changes the block. -/
def performRead (off : Offset) (size : Nat) (s : State) : Host.Outcome State Fault Refusal :=
  match (checkBus .read off size s).bind fun t => readTarget t s with
  | some v => .next (reply (.data v) s)
  | none => .next (busFault off s)

/-- `BusWrite` (rule R63). No command reads or writes what the host saw, so it makes no difference that the
completion of a CMD write is noted before its command runs (DESIGN CHOICE, log entry 9). -/
def performWrite (off : Offset) (size : Nat) (v : Word) (s : State) : Host.Outcome State Fault Refusal :=
  match checkBus .write off size s with
  | some .cmd => runCommand v (reply .done s)
  | some (.reg r) => .next (reply .done (storeReg r v s))
  | some (.table _) => .next (busFault off s)
  | some (.crom _) => .next (busFault off s)
  | none => .next (busFault off s)

/-- One host access (rule R60). -/
def performAccess (a : Access) (s : State) : Host.Outcome State Fault Refusal :=
  match a with
  | .read off size => performRead off size s
  | .write off size v => performWrite off size v s

/-- One event from outside, as one indivisible step (rules R11, R12). A reset during an access discards the
access's effects (rule R210); that the host then gets no response is a DESIGN CHOICE, log entry 10. -/
def performEvent (e : HostEvent) (s : State) : Host.Outcome State Fault Refusal :=
  match e with
  | .access a => performAccess a s
  | .reset => .next (applyReset s)
  | .resetDuring _ => .next (applyReset s)

/-- The write of a command word to CMD, as one access (rule R23). -/
def commandAccess (w : Word) : HostEvent := .access (.write Target.cmd.offset 4 w)

/-- The offset in the window of a physical address, when the window at `base` holds it (rules R6, R60, R70; log
entry 6). -/
def windowOffset (base addr : Nat) : Option Offset :=
  if base ≤ addr ∧ addr < base + 0x1000 then some (BitVec.ofNat 12 (addr - base)) else none

/-- A read by physical address, as the window at `base` receives it; none where the address is not the block's. -/
def readAtAddress (base addr size : Nat) : Option HostEvent :=
  (windowOffset base addr).map fun off => .access (.read off size)

/-- A write by physical address, as the window at `base` receives it. -/
def writeAtAddress (base addr size : Nat) (v : Word) : Option HostEvent :=
  (windowOffset base addr).map fun off => .access (.write off size v)

end Sys2Proof.Machine
end

