-- ==== Sys2Proof/Machine/Step.lean ====
section
/-! DEFINITION. One step of the block: the next event from outside, in the order of arrival (rules R12, R71). -/

namespace Sys2Proof.Machine

/-- With nothing pending the block is quiescent: there is no background work (rules R12, R219; that a step is then
the identity is a DESIGN CHOICE, log entry 1). Otherwise the
oldest event is performed to its end (rule R11). -/
def step (s : State) : Host.Outcome State Fault Refusal :=
  match s.inbox with
  | [] => .next s
  | e :: rest => performEvent e { s with inbox := rest }

/-- The host's next access is the write of this word to CMD, so that the next step runs it. The block fetches
nothing: a command exists only as the data of a write to CMD (rule R74; log entry 1). -/
def State.withFetchWord (s : State) (nbits w : Nat) : State :=
  { s with inbox := commandAccess (tableWord nbits w) :: s.inbox }

end Sys2Proof.Machine
end

