-- ==== Sys2Proof/Machine/HostProgram.lean ====
section
/-! DEFINITION. Host programs: the lines of rule R87, the accesses they stand for and their text, the
pseudo-instructions of rule R88, and the host's serialization of a 16-bit checksum (rule R67). -/

namespace Sys2Proof.Machine

/-- A line of a host program (rule R87; its text is written here, not read: log entry 12). -/
inductive HostLine where
  /-- `WR <reg>, <value>`. -/
  | wr (t : Target) (v : Word)
  /-- `RD <reg>`. -/
  | rd (t : Target)
  /-- A command mnemonic with its operand. -/
  | cmd (i : Instr)
  deriving DecidableEq, Repr

/-- The access a line stands for (rule R87): a command line is `WR CMD, <word>`. -/
def HostLine.event : HostLine → HostEvent
  | .wr t v => .access (.write t.offset 4 v)
  | .rd t => .access (.read t.offset 4)
  | .cmd i => commandAccess (encode i)

/-- The accesses of a program, in order. -/
def hostEvents (prog : List HostLine) : List HostEvent := prog.map HostLine.event

/-- `LOADCFG o, p, i, x, ri, ro` (rule R88). -/
def loadCfg (p : Params) : List HostLine :=
  [.wr (.reg .cfgCtrl) p.ctrl.toWord, .wr (.reg .cfgPoly) p.poly, .wr (.reg .cfgInit) p.init,
    .wr (.reg .cfgXorout) p.xorout]

/-- `SETCRC o, p, i, x, ri, ro` (rule R88). -/
def setCrc (p : Params) : List HostLine := loadCfg p ++ [.cmd .configure]

/-- `CRC_BYTES b0, ..., bk` (rule R88). -/
def crcBytes (buf : List Byte) : List HostLine := buf.map fun b => .cmd (.crcByte b)

/-- `CRC_BUF` (rule R88). -/
def crcBuf (buf : List Byte) : List HostLine :=
  .cmd .crcBegin :: (crcBytes buf ++ [.cmd .crcEnd, .rd (.reg .result)])

/-- `CCITT_STR` (rule R88). -/
def ccittBytes (buf : List Byte) : List HostLine := buf.map fun b => .cmd (.ccittByte b)

/-- `CCITT_RAW` (rule R88). -/
def ccittRaw (buf : List Byte) : List HostLine :=
  .cmd .ccittBegin :: (ccittBytes buf ++ [.cmd .ccittEndRaw, .rd (.reg .cresult)])

/-- `CCITT_FINAL` (rule R88). -/
def ccittFinal (buf : List Byte) : List HostLine :=
  .cmd .ccittBegin :: (ccittBytes buf ++ [.cmd .ccittEndFinal, .rd (.reg .cresult)])

/-- `REFL v, n` (rule R88). -/
def reflCall (v : DWord) (n : Count) : List HostLine :=
  [.wr (.reg .rflInLo) (v.extractLsb' 0 32), .wr (.reg .rflInHi) (v.extractLsb' 32 32), .cmd (.reflect n),
    .rd (.reg .rflOutLo), .rd (.reg .rflOutHi)]

/-- `NOP`: the block has no no-op command; a host that needs one issues `RD STATUS` (rule R88). -/
def nop : List HostLine := [.rd (.reg .status)]

/-- The ASCII bytes of a string, first character first (rule R88, `CRC_STR` and `CCITT_STR`). -/
def asciiBytes (t : String) : List Byte := t.toList.map fun c => BitVec.ofNat 8 c.toNat

/-- The big-endian prefix of a 16-bit checksum: `byte[0] = c[15:8]`, `byte[1] = c[7:0]` (rule R67). -/
def bigEndianBytes (c : Half) : List Byte := [c.extractLsb' 8 8, c.extractLsb' 0 8]

/-- The name of a register (rule R22). -/
def Reg.name : Reg → String
  | .status => "STATUS"
  | .errinfo => "ERRINFO"
  | .cfgCtrl => "CFG_CTRL"
  | .cfgPoly => "CFG_POLY"
  | .cfgInit => "CFG_INIT"
  | .cfgXorout => "CFG_XOROUT"
  | .actCtrl => "ACT_CTRL"
  | .actPoly => "ACT_POLY"
  | .actInit => "ACT_INIT"
  | .actXorout => "ACT_XOROUT"
  | .acc => "ACC"
  | .result => "RESULT"
  | .cacc => "CACC"
  | .cresult => "CRESULT"
  | .rflInLo => "RFL_IN_LO"
  | .rflInHi => "RFL_IN_HI"
  | .rflOutLo => "RFL_OUT_LO"
  | .rflOutHi => "RFL_OUT_HI"

/-- The name of a target (rule R87). -/
def Target.name : Target → String
  | .cmd => "CMD"
  | .reg r => r.name
  | .table i => "TABLE[" ++ toString i.toNat ++ "]"
  | .crom i => "CROM[" ++ toString i.toNat ++ "]"

/-- A command's mnemonic with its operand (rule R87). -/
def commandText : Instr → String
  | .clrerr => "CLRERR"
  | .reflect n => "REFLECT " ++ toString n.toNat
  | .configure => "CONFIGURE"
  | .crcBegin => "CRC_BEGIN"
  | .crcByte b => "CRC_BYTE " ++ toString b.toNat
  | .crcEnd => "CRC_END"
  | .ccittBegin => "CCITT_BEGIN"
  | .ccittByte b => "CCITT_BYTE " ++ toString b.toNat
  | .ccittEndRaw => "CCITT_END_RAW"
  | .ccittEndFinal => "CCITT_END_FINAL"

/-- A line as text, its numbers decimal (rule R87). -/
def HostLine.text : HostLine → String
  | .wr t v => "WR " ++ t.name ++ ", " ++ toString v.toNat
  | .rd t => "RD " ++ t.name
  | .cmd i => commandText i

end Sys2Proof.Machine
end

