-- ==== Sys2Proof/Safety.lean ====
section
/-! DEFINITION. What claims are stated in: the invariants of rule R38, the error a command meets (rules R180,
R184), a run that recorded no error (rule R183), and the unmasked and bit-by-bit readings that the spec says
agree with the block (rules R114, R133, R139). -/

namespace Sys2Proof.Machine

/-- The order is one of `ADMIT_ORDERS` = 8, 16, 24, 32 (rule R6). -/
def Admitted (o : Nat) : Prop := o = 8 ∨ o = 16 ∨ o = 24 ∨ o = 32

/-- A parameter set as CONFIGURE leaves it: the order admitted, every value below `2^order` (rules R26, R38). -/
structure Params.Latched (p : Params) : Prop where
  order_admitted : Admitted p.order
  poly_lt : p.poly.toNat < 2 ^ p.order
  init_lt : p.init.toNat < 2 ^ p.order
  xorout_lt : p.xorout.toNat < 2 ^ p.order

/-- The invariants of rule R38, by its numbers. Its number 4 holds by the types of CACC, CRESULT and RESULT. -/
structure State.Inv (s : State) : Prop where
  /-- 1: an open engine session has a configured engine. -/
  sess_tvalid : s.sess = true → s.tvalid = true
  /-- 2: a configured engine has latched parameters. -/
  act_latched : s.tvalid = true → s.act.Latched
  /-- 2: TABLE is the table of the active parameters. -/
  table_generated : s.tvalid = true → ∀ i : Byte, entryOf s.table i = paramEntry s.act i
  /-- 3: the accumulator of an open session is below `2^order`. -/
  acc_lt : s.sess = true → s.acc.toNat < 2 ^ s.act.order
  /-- 5: with no error recorded, ERRINFO is 0. -/
  errinfo_zero : s.err = .none → s.errinfo = 0

/-- The error that a command meets in a state, by the causes of rule R180 in the order of rule R184;
`.none` where it runs. -/
def commandError (i : Instr) (s : State) : ErrCode :=
  match i with
  | .clrerr => .none
  | .reflect n => if n.toNat ≤ 64 then .none else .illegalCmd
  | .configure =>
    if s.sess = true then .cfgBusy
    else if orderAdmitted s.cfg.order = true then .none
    else .badOrder
  | .crcBegin => if s.tvalid = true then .none else .notConfigured
  | .crcByte _ => if s.sess = true then .none else .noSession
  | .crcEnd => if s.sess = true then .none else .noSession
  | .ccittBegin => .none
  | .ccittByte _ => if s.csess = true then .none else .noSession
  | .ccittEndRaw => if s.csess = true then .none else .noSession
  | .ccittEndFinal => if s.csess = true then .none else .noSession

/-- A step of the block answered a next state: it neither faulted nor refused. -/
def StepRuns (s : State) : Prop := ∃ t, step s = .next t

/-- `k` steps, stopping at the first fault or refusal (rule R219); it is `Host.Core.run Sys2Proof.core`. -/
def runSteps : Nat → State → Host.Outcome State Fault Refusal
  | 0, s => .next s
  | k + 1, s =>
    match step s with
    | .next t => runSteps k t
    | .fault r => .fault r
    | .refused r => .refused r

/-- A run of `k` steps that starts and ends with no error recorded (rule R183). -/
def CleanRun (k : Nat) (s t : State) : Prop :=
  s.err = .none ∧ runSteps k s = .next t ∧ t.err = .none

/-- The event is a reset, alone or during an access (rule R210). -/
def HostEvent.isReset : HostEvent → Bool
  | .access _ => false
  | .reset => true
  | .resetDuring _ => true

/-- The state when the oldest pending access is over and the host saw `r` of it: the block itself unchanged. -/
def State.answered (s : State) (rest : List HostEvent) (r : Response) : State :=
  { s with inbox := rest, outbox := s.outbox ++ [r] }

/-- The loop of rule R114 on a working value that is never masked. -/
def wideGenLoop (o : Nat) (p : Nat) : Nat → Nat → Nat
  | 0, r => r
  | k + 1, r => wideGenLoop o p k (if r.testBit (o - 1) then (r <<< 1) ^^^ p else r <<< 1)

/-- Table entry `i`, masked only at the end: the reading that rule R114 says gives the same result. -/
def wideGenEntry (i : Byte) (o : Nat) (p : Word) (ri : Bool) : Nat :=
  let r := wideGenLoop o p.toNat 8
    ((if ri then (reflect (i.setWidth 64) 8).toNat else i.toNat) <<< (o - 8))
  (if ri then (reflect (BitVec.ofNat 64 r) o).toNat else r) % 2 ^ o

/-- The byte step on an accumulator that is never masked, its index masked to 8 bits (rule R133). -/
def wideStep (p : Params) (T : Byte → Word) (acc : Nat) (b : Byte) : Nat :=
  if p.ctrl.refin then (acc >>> 8) ^^^ (T (BitVec.ofNat 8 acc ^^^ b)).toNat
  else (acc <<< 8) ^^^ (T (BitVec.ofNat 8 (acc >>> (p.order - 8)) ^^^ b)).toNat

/-- `k` bit iterations of the forward CRC-16: "if the high bit is set, shift left and XOR with 0x1021, else shift
left only" (rule R139). -/
def forwardBits : Nat → Half → Half
  | 0, c => c
  | k + 1, c => forwardBits k (if c.getLsbD 15 then (c <<< 1) ^^^ 0x1021 else c <<< 1)

/-- The forward CRC-16 bit loop of rule R139: seeded at 0xFFFF, each byte XORed into the high byte, eight bit
iterations, no final XOR. -/
def forwardCrc16 (buf : List Byte) : Half :=
  buf.foldl (fun c b => forwardBits 8 (c ^^^ ((b.setWidth 16 : Half) <<< 8))) 0xFFFF

/-- The commands of the parameterized engine and of the reflect unit (30_encoding.md §3). -/
def isEngine : Instr → Bool
  | .reflect _ | .configure | .crcBegin | .crcByte _ | .crcEnd => true
  | .clrerr | .ccittBegin | .ccittByte _ | .ccittEndRaw | .ccittEndFinal => false

/-- The commands of the CCITT core (30_encoding.md §3). -/
def isCcitt : Instr → Bool
  | .ccittBegin | .ccittByte _ | .ccittEndRaw | .ccittEndFinal => true
  | .clrerr | .reflect _ | .configure | .crcBegin | .crcByte _ | .crcEnd => false

end Sys2Proof.Machine
end

