-- ==== Sys2Proof/Certificates/Slice0/Obligations.lean ====
section
/-! DEFINITION. The statements for the provers, from the numbered rules of spec/. Where a statement gives the next
state of a command or an access as one equation, that equation is also its frame: every register, TABLE entry
and flag it does not name is unchanged. The block has no byte memory (rule R75). -/

open Sys2Proof Sys2Proof.Machine

/-! ### Encoding (30_encoding.md) -/

/-- Rules R83, R84: one word of each command, written out from the formats, and the operands at their bounds. -/
def Obligations.WordsOfTheOpcodeMapDecode : Prop :=
  decode 0b00000000000000000000000000000001 = some .clrerr ∧
  decode 0b00000000010000000000000000000010 = some (.reflect 64) ∧
  decode 0b00000000000000000000000000000010 = some (.reflect 0) ∧
  decode 0b00000000000000000000000000010000 = some .configure ∧
  decode 0b00000000000000000000000000100000 = some .crcBegin ∧
  decode 0b00000000000000001111111100100001 = some (.crcByte 0xFF) ∧
  decode 0b00000000000000000000000000100010 = some .crcEnd ∧
  decode 0b00000000000000000000000000110000 = some .ccittBegin ∧
  decode 0b00000000000000000011000100110001 = some (.ccittByte 0x31) ∧
  decode 0b00000000000000000000000000110010 = some .ccittEndRaw ∧
  decode 0b00000000000000000000000000110011 = some .ccittEndFinal

/-- Rules R80 to R84: the word of every well-formed command decodes to that command, at every operand value. -/
def Obligations.EncodedCommandDecodesToItself : Prop :=
  ∀ i : Instr, i.WellFormed → decode (encode i) = some i

/-- Rules R80 to R84: a word that decodes is the word of its command, and the command is well-formed, so no bit
of a word is dropped. -/
def Obligations.DecodedWordIsTheWordOfItsCommand : Prop :=
  ∀ (w : Word) (i : Instr), decode w = some i → encode i = w ∧ i.WellFormed

/-- Rule R85: the illegal words are exactly those of its five cases, and an illegal word raises ILLEGAL_CMD with
the word as information and has no other effect. -/
def Obligations.IllegalWordsRaiseIllegalCmd : Prop :=
  (∀ w : Word, decode w = none ↔
    (w.toNat / 2 ^ 23 ≠ 0 ∨
      opcOf w ∉ ([0x01, 0x02, 0x10, 0x20, 0x21, 0x22, 0x30, 0x31, 0x32, 0x33] : List Byte) ∨
      (opcOf w ∈ ([0x01, 0x10, 0x20, 0x22, 0x30, 0x32, 0x33] : List Byte) ∧ (imm8Of w ≠ 0 ∨ countOf w ≠ 0)) ∨
      (opcOf w ∈ ([0x21, 0x31] : List Byte) ∧ countOf w ≠ 0) ∨
      (opcOf w = 0x02 ∧ (imm8Of w ≠ 0 ∨ 64 < (countOf w).toNat)))) ∧
  (∀ w : Word, opcOf w = BitVec.ofNat 8 (w.toNat % 256) ∧ imm8Of w = BitVec.ofNat 8 (w.toNat / 2 ^ 8 % 256) ∧
    countOf w = BitVec.ofNat 7 (w.toNat / 2 ^ 16 % 128)) ∧
  (∀ (s : State) (w : Word) (rest : List HostEvent), decode w = none →
    s.inbox = .access (.write 0x000 4 w) :: rest →
    step s = .next
      (if s.err = .none then { s.answered rest .done with err := .illegalCmd, errinfo := w }
       else s.answered rest .done))

/-! ### A step runs the decoded command (rules R23, R80) -/

/-- Rule R23: a write of a word to CMD executes the command it selects, before the next access, or raises
ILLEGAL_CMD; CMD stores nothing; a read of CMD is a bus error. Around exec, the step takes the access off the
pending ones and notes its completion. -/
def Obligations.CommandWriteRunsTheDecodedCommand : Prop :=
  (∀ (s : State) (w : Word) (i : Instr) (rest : List HostEvent), decode w = some i →
    s.inbox = .access (.write 0x000 4 w) :: rest → step s = exec i (s.answered rest .done)) ∧
  (∀ (s : State) (w : Word) (rest : List HostEvent), decode w = none →
    s.inbox = .access (.write 0x000 4 w) :: rest →
    step s = .next (raiseError .illegalCmd w (s.answered rest .done))) ∧
  (∀ (s : State) (size : Nat) (rest : List HostEvent), s.inbox = .access (.read 0x000 size) :: rest →
    step s = .next (raiseError .busErr 0 (s.answered rest .busErr)))

/-! ### The commands, each with its next state whole -/

/-- Rule R170: CLRERR clears ERR and ERRINFO and changes nothing else, in every state. -/
def Obligations.ClrerrClearsErrAndErrinfo : Prop :=
  encode .clrerr = 0x00000001 ∧ decode 0x00000101 = none ∧
  ∀ s : State, exec .clrerr s = .next { s with err := .none, errinfo := 0 }

/-- Rule R101: REFLECT n, for n from 0 to 64, writes the reflection of RFL_IN to RFL_OUT and changes nothing else;
a word with its opcode and N > 64, IMM8 ≠ 0 or RSV ≠ 0 is no command. -/
def Obligations.ReflectWritesRflOut : Prop :=
  (∀ w : Word, opcOf w = 0x02 → (64 < (countOf w).toNat ∨ imm8Of w ≠ 0 ∨ w.toNat / 2 ^ 23 ≠ 0) → decode w = none) ∧
  ∀ n : Count, n.toNat ≤ 64 →
    (encode (.reflect n)).toNat = 0x00000002 + n.toNat * 2 ^ 16 ∧
    ∀ s : State, exec (.reflect n) s = .next { s with
      rflOutLo := (reflect (s.rflInHi ++ s.rflInLo) n.toNat).extractLsb' 0 32
      rflOutHi := (reflect (s.rflInHi ++ s.rflInLo) n.toNat).extractLsb' 32 32 }

/-- Rule R100: bit `n-1-k` of the result is bit `k` of the value, every bit at `n` or higher is 0, and the bits of
the value at `n` or higher do not matter. -/
def Obligations.ReflectReversesTheLowBits : Prop :=
  ∀ (v : DWord) (n : Nat), n ≤ 64 →
    (∀ k, k < n → (reflect v n).getLsbD (n - 1 - k) = v.getLsbD k) ∧
    (∀ k, n ≤ k → (reflect v n).getLsbD k = false) ∧
    (∀ v' : DWord, (∀ k, k < n → v'.getLsbD k = v.getLsbD k) → reflect v' n = reflect v n)

/-- Rule R102: the six laws of reflect. -/
def Obligations.ReflectLaws : Prop :=
  ∀ (a b : DWord) (n : Nat), n ≤ 64 →
    (reflect a n).toNat < 2 ^ n ∧
    reflect a n = reflect (a &&& BitVec.ofNat 64 (2 ^ n - 1)) n ∧
    reflect (reflect a n) n = a &&& BitVec.ofNat 64 (2 ^ n - 1) ∧
    reflect a 0 = 0 ∧
    reflect (a ^^^ b) n = reflect a n ^^^ reflect b n ∧
    reflect (BitVec.ofNat 64 (2 ^ n - 1)) n = BitVec.ofNat 64 (2 ^ n - 1) ∧
    reflect 0 n = 0 ∧
    (1 ≤ n → reflect 1 n = BitVec.ofNat 64 (2 ^ (n - 1)))

/-- Rules R113 and R118: with no engine session and an admitted ORDER, CONFIGURE latches the masked staged set,
generates TABLE and sets TVALID; with a session open it is CFG_BUSY, with an ORDER not admitted BAD_ORDER, and
nothing else changes. -/
def Obligations.ConfigureLatchesAndGeneratesOrRefuses : Prop :=
  encode .configure = 0x00000010 ∧
  (∀ (o : Nat) (p : Word) (ri : Bool) (i : Byte), entryOf (genTable o p ri) i = genEntry i o p ri) ∧
  ∀ s : State,
    (s.sess = true → exec .configure s = .next (raiseError .cfgBusy 0x00000010 s)) ∧
    (s.sess = false → ¬ Admitted s.cfg.ctrl.order.toNat →
      exec .configure s = .next (raiseError .badOrder 0x00000010 s)) ∧
    (s.sess = false → Admitted s.cfg.ctrl.order.toNat →
      exec .configure s = .next { s with
        act := {
          ctrl := s.cfg.ctrl
          poly := s.cfg.poly &&& BitVec.ofNat 32 (2 ^ s.cfg.ctrl.order.toNat - 1)
          init := s.cfg.init &&& BitVec.ofNat 32 (2 ^ s.cfg.ctrl.order.toNat - 1)
          xorout := s.cfg.xorout &&& BitVec.ofNat 32 (2 ^ s.cfg.ctrl.order.toNat - 1) }
        table := genTable s.cfg.ctrl.order.toNat
          (s.cfg.poly &&& BitVec.ofNat 32 (2 ^ s.cfg.ctrl.order.toNat - 1)) s.cfg.ctrl.refin
        tvalid := true })

/-- Rule R130: CRC_BEGIN on a configured engine seeds ACC, reflected over order bits with REFIN, and opens the
session, whether or not one was open; else it is NOT_CONFIGURED. -/
def Obligations.CrcBeginSeedsAndOpens : Prop :=
  encode .crcBegin = 0x00000020 ∧
  ∀ s : State,
    (s.tvalid = false → exec .crcBegin s = .next (raiseError .notConfigured 0x00000020 s)) ∧
    (s.tvalid = true → exec .crcBegin s = .next { s with
      acc := if s.act.ctrl.refin = true
        then (reflect (s.act.init.setWidth 64) s.act.ctrl.order.toNat).setWidth 32 else s.act.init
      sess := true })

/-- Rule R132: CRC_BYTE b in a session mixes b into ACC by the step function and changes nothing else; outside one
it is NO_SESSION and the byte is not mixed. -/
def Obligations.CrcByteMixesOneByte : Prop :=
  ∀ b : Byte, (encode (.crcByte b)).toNat = 0x00000021 + b.toNat * 2 ^ 8 ∧
  ∀ s : State,
    (s.sess = false → exec (.crcByte b) s = .next (raiseError .noSession (encode (.crcByte b)) s)) ∧
    (s.sess = true →
      exec (.crcByte b) s = .next { s with acc := crcStep s.act (entryOf s.table) s.acc b })

/-- Rule R135: CRC_END in a session writes RESULT, closes the session and leaves ACC; outside one it is NO_SESSION. -/
def Obligations.CrcEndWritesResultAndCloses : Prop :=
  encode .crcEnd = 0x00000022 ∧
  ∀ s : State,
    (s.sess = false → exec .crcEnd s = .next (raiseError .noSession 0x00000022 s)) ∧
    (s.sess = true → exec .crcEnd s = .next { s with result := crcFinal s.act s.acc, sess := false })

/-- Rule R152: CCITT_BEGIN seeds CACC to 0xFFFF and opens the CCITT session, in every state. -/
def Obligations.CcittBeginSeedsAndOpens : Prop :=
  encode .ccittBegin = 0x00000030 ∧
  ∀ s : State, exec .ccittBegin s = .next { s with cacc := 0xFFFF, csess := true }

/-- Rule R153: CCITT_BYTE b in a session is one table step on CACC; outside one it is NO_SESSION. -/
def Obligations.CcittByteMixesOneByte : Prop :=
  ∀ b : Byte, (encode (.ccittByte b)).toNat = 0x00000031 + b.toNat * 2 ^ 8 ∧
  ∀ s : State,
    (s.csess = false → exec (.ccittByte b) s = .next (raiseError .noSession (encode (.ccittByte b)) s)) ∧
    (s.csess = true → exec (.ccittByte b) s = .next { s with
      cacc := (s.cacc >>> 8) ^^^ crom (BitVec.ofNat 8 (s.cacc.toNat % 256) ^^^ b) })

/-- Rule R155: CCITT_END_RAW in a session copies CACC to CRESULT and closes the session; outside one it is NO_SESSION. -/
def Obligations.CcittEndRawWritesCacc : Prop :=
  encode .ccittEndRaw = 0x00000032 ∧
  ∀ s : State,
    (s.csess = false → exec .ccittEndRaw s = .next (raiseError .noSession 0x00000032 s)) ∧
    (s.csess = true → exec .ccittEndRaw s = .next { s with cresult := s.cacc, csess := false })

/-- Rule R156: CCITT_END_FINAL in a session writes CACC XOR 0xFFFF and closes the session; outside one it is
NO_SESSION. -/
def Obligations.CcittEndFinalWritesInvertedCacc : Prop :=
  encode .ccittEndFinal = 0x00000033 ∧
  ∀ s : State,
    (s.csess = false → exec .ccittEndFinal s = .next (raiseError .noSession 0x00000033 s)) ∧
    (s.csess = true → exec .ccittEndFinal s = .next { s with cresult := s.cacc ^^^ 0xFFFF, csess := false })

/-! ### The algorithms, in arithmetic of their own -/

/-- Rule R131: both branches of the byte step as numbers, and the result below `2^order`. -/
def Obligations.CrcStepAsArithmetic : Prop :=
  ∀ (p : Params) (T : Byte → Word) (acc : Word) (b : Byte), Admitted p.order → acc.toNat < 2 ^ p.order →
    (∀ i, (T i).toNat < 2 ^ p.order) →
    (p.ctrl.refin = false → (crcStep p T acc b).toNat =
      (acc.toNat * 2 ^ 8 % 2 ^ p.order) ^^^
        (T (BitVec.ofNat 8 (acc.toNat / 2 ^ (p.order - 8) % 256) ^^^ b)).toNat) ∧
    (p.ctrl.refin = true → (crcStep p T acc b).toNat =
      (acc.toNat / 2 ^ 8) ^^^ (T (BitVec.ofNat 8 (acc.toNat % 256) ^^^ b)).toNat) ∧
    (crcStep p T acc b).toNat < 2 ^ p.order

/-- Rule R134: the finishing step bit by bit. -/
def Obligations.CrcFinalBitByBit : Prop :=
  ∀ (p : Params) (acc : Word) (k : Nat), Admitted p.order →
    (crcFinal p acc).getLsbD k =
      (decide (k < p.order) &&
        ((if p.ctrl.refout ≠ p.ctrl.refin then acc.getLsbD (p.order - 1 - k) else acc.getLsbD k) ^^
          p.xorout.getLsbD k))

/-- Rule R136: CRC_BEGIN followed at once by CRC_END leaves in RESULT the finished seed, which is the initial value
in the four cases of REFIN and REFOUT: reflected exactly with REFOUT, XORed and masked; and that is the value of the
whole-buffer function on the empty buffer. -/
def Obligations.EmptyBufferResult : Prop :=
  (∀ s : State, s.tvalid = true → s.act.Latched →
    ∃ t u, exec .crcBegin s = .next t ∧ exec .crcEnd t = .next u ∧
      u.result = crcFinal s.act (seed s.act) ∧
      u.result = ((if s.act.ctrl.refout = true then reflectWord s.act.init s.act.order else s.act.init) ^^^
        s.act.xorout) &&& BitVec.ofNat 32 (2 ^ s.act.order - 1)) ∧
  (∀ P : Params, Admitted P.order →
    parameterizedCrc P [] =
      ((if P.ctrl.refout = true then reflectWord P.init P.order else P.init) ^^^ P.xorout) &&&
        BitVec.ofNat 32 (2 ^ P.order - 1))

/-- Rule R115: the laws of the table: entry 0, linearity, the bound, and the entries that hold the polynomial. -/
def Obligations.GeneratedTableLaws : Prop :=
  ∀ (o : Nat) (p : Word) (ri : Bool) (a b : Byte), Admitted o → p.toNat < 2 ^ o →
    genEntry 0 o p ri = 0 ∧
    genEntry (a ^^^ b) o p ri = genEntry a o p ri ^^^ genEntry b o p ri ∧
    (genEntry a o p ri).toNat < 2 ^ o ∧
    genEntry 1 o p false = p ∧
    genEntry 128 o p true = reflectWord p o

/-- Rules R116 and R115 (law 6): two configurations of the same order, polynomial and reflect-in generate the same
TABLE, whatever INIT, XOROUT, REFOUT and the rest of the state hold. -/
def Obligations.TableDependsOnOrderPolyRefinOnly : Prop :=
  ∀ s t : State, s.sess = false → t.sess = false → Admitted s.cfg.order →
    s.cfg.ctrl.order = t.cfg.ctrl.order → s.cfg.poly = t.cfg.poly → s.cfg.ctrl.refin = t.cfg.ctrl.refin →
    ∃ s' t', exec .configure s = .next s' ∧ exec .configure t = .next t' ∧
      s'.tvalid = true ∧ t'.tvalid = true ∧ ∀ i : Byte, entryOf s'.table i = entryOf t'.table i

/-- Rule R114: keeping the bits above order and masking only at the end generates the same table. -/
def Obligations.GeneratorWithoutMasksAgrees : Prop :=
  ∀ (i : Byte) (o : Nat) (p : Word) (ri : Bool), Admitted o → p.toNat < 2 ^ o →
    (genEntry i o p ri).toNat = wideGenEntry i o p ri

/-- Rule R112: masking the parameters to order bits changes no table entry and no checksum: the unmasked set gives the
same ones, with any bits at or above order. -/
def Obligations.LatchingMasksChangeNoValue : Prop :=
  ∀ P : Params, Admitted P.order →
    (∀ i : Byte, paramEntry (latch P) i = paramEntry P i) ∧
    (∀ buf : List Byte,
      parameterizedCrc P buf = crcFinal P (buf.foldl (crcStep P (paramEntry P)) (seed P)))

/-- Rule R117: the table of the CRC-16-CCITT parameters is CROM, entry for entry. -/
def Obligations.GeneratedCcittTableIsCrom : Prop :=
  ∀ i : Byte, genEntry i 16 0x1021 true = (crom i).setWidth 32

/-- Rule R133: an accumulator of any width that is never masked, its index masked to 8 bits, gives the same bits
below order after every buffer. -/
def Obligations.UnmaskedAccumulatorAgrees : Prop :=
  ∀ (p : Params) (T : Byte → Word) (acc : Word) (buf : List Byte), Admitted p.order →
    acc.toNat < 2 ^ p.order → (∀ i, (T i).toNat < 2 ^ p.order) →
    (buf.foldl (wideStep p T) acc.toNat) % 2 ^ p.order = (buf.foldl (crcStep p T) acc).toNat

/-- Rule R66: bit 0 first. The step with REFIN = 1 is the step with REFIN = 0 on the reflected accumulator and the
reflected byte, each with its own generated table. -/
def Obligations.ReflectedStepMirrorsThePlainStep : Prop :=
  ∀ (p q : Params) (acc : Word) (b : Byte), Admitted p.order → p.poly.toNat < 2 ^ p.order →
    acc.toNat < 2 ^ p.order → q.ctrl.order = p.ctrl.order → q.poly = p.poly →
    p.ctrl.refin = true → q.ctrl.refin = false →
    reflectWord (crcStep p (paramEntry p) acc b) p.order =
      crcStep q (paramEntry q) (reflectWord acc p.order) ((reflectWord (b.setWidth 32) 8).setWidth 8)

/-- Rule R139: the configuration (16, 0x1021, 0xFFFF, 0, 0, 0) and the forward CRC-16 bit loop give the same value
for every buffer. -/
def Obligations.ForwardCrc16LoopAgrees : Prop :=
  ∀ buf : List Byte,
    parameterizedCrc { ctrl := { order := 16, refin := false, refout := false },
                       poly := 0x1021, init := 0xFFFF, xorout := 0 } buf = (forwardCrc16 buf).setWidth 32

/-- Rule R138: the engine configured (16, 0x1021, 0xFFFF, 0, 1, 1) computes the CCITT raw result of every buffer. -/
def Obligations.EngineAgreesWithCcittCore : Prop :=
  ∀ buf : List Byte,
    parameterizedCrc { ctrl := { order := 16, refin := true, refout := true },
                       poly := 0x1021, init := 0xFFFF, xorout := 0 } buf = (computeCrc16Raw buf).setWidth 32

/-! ### Whole buffers through the bus -/

/-- Rule R137: `SETCRC P; CRC_BUF buf`, from any state with no engine session open, leaves RESULT =
parameterizedCrc(P, buf), returns it to the host, and changes neither the recorded error nor the CCITT core. -/
def Obligations.EngineProgramComputesParameterizedCrc : Prop :=
  ∀ (P : Params) (buf : List Byte) (s : State) (rest : List HostEvent), Admitted P.order → s.sess = false →
    s.inbox = hostEvents (setCrc P ++ crcBuf buf) ++ rest →
    ∃ t, runSteps (buf.length + 8) s = .next t ∧
      t.result = parameterizedCrc P buf ∧
      t.outbox = s.outbox ++ List.replicate (buf.length + 7) .done ++ [.data (parameterizedCrc P buf)] ∧
      t.inbox = rest ∧ t.sess = false ∧ t.err = s.err ∧ t.errinfo = s.errinfo ∧
      t.cacc = s.cacc ∧ t.cresult = s.cresult ∧ t.csess = s.csess

/-- Rule R157: `CCITT_RAW buf` and `CCITT_FINAL buf`, from any state, leave the raw and the final checksum of the
buffer in CRESULT, return it to the host, and change no register of the engine. -/
def Obligations.CcittProgramsComputeTheChecksums : Prop :=
  ∀ (buf : List Byte) (s : State) (rest : List HostEvent),
    (s.inbox = hostEvents (ccittRaw buf) ++ rest →
      runSteps (buf.length + 3) s = .next { s with
        cacc := buf.foldl ccittStep 0xFFFF
        cresult := buf.foldl ccittStep 0xFFFF
        csess := false
        inbox := rest
        outbox := s.outbox ++ List.replicate (buf.length + 2) .done ++
          [.data ((buf.foldl ccittStep 0xFFFF).setWidth 32)] }) ∧
    (s.inbox = hostEvents (ccittFinal buf) ++ rest →
      runSteps (buf.length + 3) s = .next { s with
        cacc := buf.foldl ccittStep 0xFFFF
        cresult := buf.foldl ccittStep 0xFFFF ^^^ 0xFFFF
        csess := false
        inbox := rest
        outbox := s.outbox ++ List.replicate (buf.length + 2) .done ++
          [.data ((buf.foldl ccittStep 0xFFFF ^^^ 0xFFFF).setWidth 32)] })

/-- Rules R88 and R104: `REFL v, n` returns the two halves of reflect(v, n). -/
def Obligations.ReflProgramReturnsTheReflection : Prop :=
  ∀ (v : DWord) (n : Count) (s : State) (rest : List HostEvent), n.toNat ≤ 64 →
    s.inbox = hostEvents (reflCall v n) ++ rest →
    ∃ t, runSteps 5 s = .next t ∧ t.inbox = rest ∧
      t.outbox = s.outbox ++ [.done, .done, .done,
        .data ((reflect v n.toNat).extractLsb' 0 32), .data ((reflect v n.toNat).extractLsb' 32 32)]

/-! ### Errors (60_exceptions.md) -/

/-- Rule R182: an error is recorded only when none is recorded, and nothing else of the state changes. -/
def Obligations.RaiseRecordsOnlyTheFirstError : Prop :=
  ∀ (c : ErrCode) (info : Word) (s : State),
    raiseError c info s = if s.err = .none then { s with err := c, errinfo := info } else s

/-- Rules R180 and R184: a command that meets an error reports that one error, with its own word as information,
and changes nothing else; a command that meets none completes, and only CLRERR then touches ERR and ERRINFO. -/
def Obligations.CommandsReportOneErrorAndAreOtherwiseClean : Prop :=
  ∀ (i : Instr) (s : State),
    (commandError i s ≠ .none → exec i s = .next (raiseError (commandError i s) (encode i) s)) ∧
    (commandError i s = .none →
      ∃ t, exec i s = .next t ∧ (i ≠ .clrerr → t.err = s.err ∧ t.errinfo = s.errinfo) ∧
        t.inbox = s.inbox ∧ t.outbox = s.outbox)

/-- Rule R180: the codes of the errors as STATUS.ERR shows them. -/
def Obligations.ErrorCodesOfTheTable : Prop :=
  ErrCode.code .none = 0x00 ∧ ErrCode.code .illegalCmd = 0x01 ∧ ErrCode.code .badOrder = 0x02 ∧
  ErrCode.code .notConfigured = 0x03 ∧ ErrCode.code .noSession = 0x04 ∧ ErrCode.code .cfgBusy = 0x05 ∧
  ErrCode.code .busErr = 0x06 ∧ ∀ c d : ErrCode, c.code = d.code → c = d

/-- Rules R182 and R185: whatever the next event is, but for a reset and for the command CLRERR, a recorded error
and its information stay as they are. -/
def Obligations.RecordedErrorIsSticky : Prop :=
  ∀ (s t : State) (e : HostEvent) (rest : List HostEvent), s.inbox = e :: rest → step s = .next t →
    e.isReset = false → e ≠ .access (.write 0x000 4 0x00000001) → s.err ≠ .none →
    t.err = s.err ∧ t.errinfo = s.errinfo

/-- Rule R183: in a run without a reset and without CLRERR that starts and ends with no error recorded, no error was
recorded at any moment of it. -/
def Obligations.CleanRunRaisedNoError : Prop :=
  ∀ (k : Nat) (s t : State), CleanRun k s t →
    (∀ e ∈ s.inbox.take k, HostEvent.isReset e = false ∧ e ≠ .access (.write 0x000 4 0x00000001)) →
    ∀ (j : Nat) (u : State), j ≤ k → runSteps j s = .next u → u.err = .none

/-- Rules R183 and R196: every step answers a next state; it takes exactly the oldest pending event, and an access
gets exactly one response. That a reset gives none, also when it interrupts an access, is the model's choice (log
entry 10). -/
def Obligations.EveryStepAnswersANextState : Prop :=
  ∀ s : State, ∃ t, step s = .next t ∧ t.inbox = s.inbox.tail ∧
    (∀ (a : Access) (rest : List HostEvent), s.inbox = .access a :: rest →
      ∃ r : Response, t.outbox = s.outbox ++ [r]) ∧
    (∀ (e : HostEvent) (rest : List HostEvent), s.inbox = e :: rest → e.isReset = true →
      t.outbox = s.outbox)

/-- Rules R12 and R219: with nothing pending the block does nothing. That there is a step then is the model's choice
(log entry 1). -/
def Obligations.QuiescentBlockDoesNothing : Prop :=
  ∀ s : State, s.inbox = [] → step s = .next s

/-! ### The register window (rules R22, R60 to R63, R70) -/

/-- Rule R22: the offset of every register as the map prints it, that no two registers share one, and that nothing
else is mapped. -/
def Obligations.RegisterMapIsOneToOne : Prop :=
  (Target.cmd.offset = 0x000 ∧ Reg.offset .status = 0x004 ∧ Reg.offset .errinfo = 0x008 ∧
    Reg.offset .cfgCtrl = 0x010 ∧ Reg.offset .cfgPoly = 0x014 ∧ Reg.offset .cfgInit = 0x018 ∧
    Reg.offset .cfgXorout = 0x01C ∧ Reg.offset .actCtrl = 0x020 ∧ Reg.offset .actPoly = 0x024 ∧
    Reg.offset .actInit = 0x028 ∧ Reg.offset .actXorout = 0x02C ∧ Reg.offset .acc = 0x030 ∧
    Reg.offset .result = 0x034 ∧ Reg.offset .cacc = 0x038 ∧ Reg.offset .cresult = 0x03C ∧
    Reg.offset .rflInLo = 0x040 ∧ Reg.offset .rflInHi = 0x044 ∧ Reg.offset .rflOutLo = 0x048 ∧
    Reg.offset .rflOutHi = 0x04C ∧ ∀ r : Reg, (Target.reg r).offset = r.offset) ∧
  (∀ t : Target, targetAt t.offset = some t ∧ t.offset &&& 3 = 0) ∧
  (∀ (off : Offset) (t : Target), off &&& 3 = 0 → targetAt off = some t → t.offset = off) ∧
  (∀ i : Byte, (Target.table i).offset.toNat = 0x400 + 4 * i.toNat ∧
    (Target.crom i).offset.toNat = 0x800 + 4 * i.toNat) ∧
  (∀ off : Offset, off &&& 3 = 0 →
    (targetAt off = none ↔
      (off = 0x00C ∨ (0x050 ≤ off.toNat ∧ off.toNat ≤ 0x3FC) ∨ 0xC00 ≤ off.toNat)))

/-- Rule R61: a legal read returns the register's value to the host and changes no state of the block. -/
def Obligations.LegalReadReturnsTheRegister : Prop :=
  ∀ (s : State) (rest : List HostEvent),
    (∀ r : Reg, s.inbox = .access (.read r.offset 4) :: rest →
      step s = .next (s.answered rest (.data (readReg r s)))) ∧
    (∀ i : Byte, s.tvalid = true → s.inbox = .access (.read (Target.table i).offset 4) :: rest →
      step s = .next (s.answered rest (.data (entryOf s.table i)))) ∧
    (∀ i : Byte, s.inbox = .access (.read (Target.crom i).offset 4) :: rest →
      step s = .next (s.answered rest (.data ((crom i).setWidth 32))))

/-- Rules R28 to R34: what the host reads in each register but STATUS and the control registers. -/
def Obligations.RegisterReadsShowTheirContents : Prop :=
  ∀ s : State,
    readReg .errinfo s = s.errinfo ∧ readReg .cfgPoly s = s.cfg.poly ∧ readReg .cfgInit s = s.cfg.init ∧
    readReg .cfgXorout s = s.cfg.xorout ∧ readReg .actPoly s = s.act.poly ∧ readReg .actInit s = s.act.init ∧
    readReg .actXorout s = s.act.xorout ∧ readReg .acc s = s.acc ∧ readReg .result s = s.result ∧
    (readReg .cacc s).toNat = s.cacc.toNat ∧ (readReg .cresult s).toNat = s.cresult.toNat ∧
    readReg .rflInLo s = s.rflInLo ∧ readReg .rflInHi s = s.rflInHi ∧
    readReg .rflOutLo s = s.rflOutLo ∧ readReg .rflOutHi s = s.rflOutHi

/-- Rules R24, R26 and R27: the fields of STATUS, CFG_CTRL and ACT_CTRL in the words the host reads; reserved bits
read 0. -/
def Obligations.StatusAndControlWordLayout : Prop :=
  (∀ s : State,
    (readReg .status s).toNat =
      s.err.code.toNat * 2 ^ 8 + s.csess.toNat * 2 ^ 2 + s.sess.toNat * 2 ^ 1 + s.tvalid.toNat) ∧
  (∀ s : State,
    (readReg .cfgCtrl s).toNat =
      s.cfg.ctrl.refout.toNat * 2 ^ 9 + s.cfg.ctrl.refin.toNat * 2 ^ 8 + s.cfg.ctrl.order.toNat) ∧
  (∀ s : State,
    (readReg .actCtrl s).toNat =
      s.act.ctrl.refout.toNat * 2 ^ 9 + s.act.ctrl.refin.toNat * 2 ^ 8 + s.act.ctrl.order.toNat)

/-- Rule R62: each of the conditions that forbid an access makes it BUS_ERR: the error response, the error recorded
with the offset if none was, and nothing else changed. That a write gets the error response as a read does, and that
the block goes on after it, is the model's reading (DEDUCED, log entry 4). -/
def Obligations.ForbiddenAccessIsBusError : Prop :=
  ∀ (s : State) (off : Offset) (size : Nat) (v : Word) (rest : List HostEvent),
    ((size ≠ 4 ∨ off.toNat % 4 ≠ 0 ∨ targetAt off = none ∨ off = Target.cmd.offset ∨
        (s.tvalid = false ∧ ∃ i, off = (Target.table i).offset)) →
      s.inbox = .access (.read off size) :: rest →
      step s = .next (raiseError .busErr (off.setWidth 32) (s.answered rest .busErr))) ∧
    ((size ≠ 4 ∨ off.toNat % 4 ≠ 0 ∨ targetAt off = none ∨
        off ∈ ([0x004, 0x008, 0x020, 0x024, 0x028, 0x02C, 0x030, 0x034, 0x038, 0x03C, 0x048, 0x04C] :
          List Offset) ∨
        (∃ i, off = (Target.table i).offset) ∨ (∃ i, off = (Target.crom i).offset)) →
      s.inbox = .access (.write off size v) :: rest →
      step s = .next (raiseError .busErr (off.setWidth 32) (s.answered rest .busErr)))

/-- Rule R63: a legal write stores and changes nothing else: CFG_CTRL under its mask 0x33F, the others whole; a write
to CMD decodes and executes its word. -/
def Obligations.LegalWriteStores : Prop :=
  (∀ (s : State) (v : Word) (rest : List HostEvent), s.inbox = .access (.write 0x000 4 v) :: rest →
    step s = match decode v with
      | some i => exec i (s.answered rest .done)
      | none => .next (raiseError .illegalCmd v (s.answered rest .done))) ∧
  (∀ (s : State) (v : Word) (rest : List HostEvent), s.inbox = .access (.write 0x010 4 v) :: rest →
    ∃ c : Ctrl, c.toWord = v &&& 0x0000033F ∧
      step s = .next { s.answered rest .done with cfg := { s.cfg with ctrl := c } }) ∧
  (∀ (s : State) (v : Word) (rest : List HostEvent), s.inbox = .access (.write 0x014 4 v) :: rest →
    step s = .next { s.answered rest .done with cfg := { s.cfg with poly := v } }) ∧
  (∀ (s : State) (v : Word) (rest : List HostEvent), s.inbox = .access (.write 0x018 4 v) :: rest →
    step s = .next { s.answered rest .done with cfg := { s.cfg with init := v } }) ∧
  (∀ (s : State) (v : Word) (rest : List HostEvent), s.inbox = .access (.write 0x01C 4 v) :: rest →
    step s = .next { s.answered rest .done with cfg := { s.cfg with xorout := v } }) ∧
  (∀ (s : State) (v : Word) (rest : List HostEvent), s.inbox = .access (.write 0x040 4 v) :: rest →
    step s = .next { s.answered rest .done with rflInLo := v }) ∧
  (∀ (s : State) (v : Word) (rest : List HostEvent), s.inbox = .access (.write 0x044 4 v) :: rest →
    step s = .next { s.answered rest .done with rflInHi := v })

/-- Rules R6 and R70: for every 4096-byte-aligned base, an address is the block's exactly when it lies in the
4096 bytes from the base, and its offset is then its distance from the base. -/
def Obligations.WindowHoldsFourKilobytesAtEveryBase : Prop :=
  ∀ base addr : Nat, base % 4096 = 0 →
    (∀ off : Offset, windowOffset base addr = some off ↔
      (addr / 4096 = base / 4096 ∧ off.toNat = addr % 4096)) ∧
    (windowOffset base addr = none ↔ addr / 4096 ≠ base / 4096)

/-- Rule R67: the host's big-endian serialization of a 16-bit checksum, and that it loses nothing. -/
def Obligations.ChecksumSerializesBigEndian : Prop :=
  ∀ c : Half, ∃ hi lo : Byte, bigEndianBytes c = [hi, lo] ∧ hi.toNat = c.toNat / 256 ∧ lo.toNat = c.toNat % 256 ∧
    hi.toNat * 256 + lo.toNat = c.toNat

/-! ### Reset (70_reset_and_hazards.md) -/

/-- Rule R210: a reset, alone or during an access, puts every register to its reset value whatever the state was,
TVALID among them, with some contents of TABLE that the rule does not say, and nothing of the access remains. That
an interrupted access gets no response, and that the events still pending and what the host saw stay, is the model's
choice (DESIGN CHOICE, log entry 10); the counter is the model's own (log entry 2). -/
def Obligations.ResetEventGivesTheResetState : Prop :=
  ∀ (s : State) (e : HostEvent) (rest : List HostEvent), e.isReset = true → s.inbox = e :: rest →
    ∃ (contents : CrcTable) (count : Nat), step s = .next {
      cfg := { ctrl := { order := 0, refin := false, refout := false }, poly := 0, init := 0, xorout := 0 }
      act := { ctrl := { order := 0, refin := false, refout := false }, poly := 0, init := 0, xorout := 0 }
      table := contents
      tvalid := false
      sess := false
      csess := false
      acc := 0
      result := 0
      cacc := 0
      cresult := 0
      rflInLo := 0
      rflInHi := 0
      rflOutLo := 0
      rflOutHi := 0
      err := .none
      errinfo := 0
      inbox := rest
      outbox := s.outbox
      unspecCount := count }

/-- Rule R39: right after reset every register with storage reads 0, TABLE cannot be read whatever it holds, CROM reads
its constants, and no session is open. -/
def Obligations.EveryRegisterReadsZeroAtReset : Prop :=
  (∀ r : Reg, readReg r State.reset = 0) ∧
  (∀ i : Byte, checkBus .read (Target.table i).offset 4 State.reset = none) ∧
  (∀ i : Byte, readTarget (.crom i) State.reset = some ((crom i).setWidth 32)) ∧ State.reset.tvalid = false ∧ State.reset.sess = false ∧
  State.reset.csess = false ∧ State.reset.err = .none ∧ State.reset.errinfo = 0 ∧
  State.reset.cacc = 0 ∧ State.reset.cresult = 0

/-- Rules R26, R35 and R211: no event but a reset and the command CONFIGURE changes the active parameters, TABLE or
TVALID, and no event but a reset clears TVALID. -/
def Obligations.OnlyConfigureAndResetReplaceTheEngine : Prop :=
  ∀ (s t : State) (e : HostEvent) (rest : List HostEvent), s.inbox = e :: rest → step s = .next t →
    e.isReset = false →
    (s.tvalid = true → t.tvalid = true) ∧
    (e ≠ .access (.write 0x000 4 0x00000010) → t.act = s.act ∧ t.table = s.table ∧ t.tvalid = s.tvalid)

/-- Rule R27: SESS is set only by CRC_BEGIN and cleared only by CRC_END and reset, CSESS only by CCITT_BEGIN and by
the two CCITT ENDs and reset. -/
def Obligations.SessionFlagsChangeOnlyByTheirCommands : Prop :=
  ∀ (s t : State) (e : HostEvent) (rest : List HostEvent), s.inbox = e :: rest → step s = .next t →
    (s.sess = false → t.sess = true → e = .access (.write 0x000 4 0x00000020)) ∧
    (s.sess = true → t.sess = false → e.isReset = true ∨ e = .access (.write 0x000 4 0x00000022)) ∧
    (s.csess = false → t.csess = true → e = .access (.write 0x000 4 0x00000030)) ∧
    (s.csess = true → t.csess = false →
      e.isReset = true ∨ e = .access (.write 0x000 4 0x00000032) ∨ e = .access (.write 0x000 4 0x00000033))

/-! ### Invariants and independence -/

/-- Rule R38: every step keeps the invariants, from every state that has them. -/
def Obligations.StepKeepsTheInvariants : Prop :=
  ∀ s t : State, s.Inv → step s = .next t → t.Inv

/-- Rule R38: the invariants hold right after reset, whatever accesses are pending. -/
def Obligations.ResetMeetsTheInvariants : Prop :=
  ∀ events : List HostEvent, State.Inv { State.reset with inbox := events }

/-- Rule R38: the invariants hold in every state that any sequence of host events reaches from reset, number 4 of
them on the values the host reads. -/
def Obligations.EveryReachableStateMeetsTheInvariants : Prop :=
  ∀ (events : List HostEvent) (k : Nat) (t : State),
    runSteps k { State.reset with inbox := events } = .next t →
      t.Inv ∧ (readReg .cacc t).toNat < 2 ^ 16 ∧ (readReg .cresult t).toNat < 2 ^ 16 ∧
      (readReg .result t).toNat < 2 ^ 32

/-- Rules R154 and R158: a CCITT command reads only CACC, CRESULT, CSESS and its operand: two states that agree on
these agree on them afterwards, whatever the engine holds; and it changes no register of the engine, of the
reflect unit or of the parameters. -/
def Obligations.CcittCommandsIgnoreTheEngine : Prop :=
  ∀ (i : Instr) (s t s' t' : State), isCcitt i = true → s.cacc = t.cacc → s.cresult = t.cresult →
    s.csess = t.csess → exec i s = .next s' → exec i t = .next t' →
    (s'.cacc = t'.cacc ∧ s'.cresult = t'.cresult ∧ s'.csess = t'.csess) ∧
    (s'.cfg = s.cfg ∧ s'.act = s.act ∧ s'.table = s.table ∧ s'.tvalid = s.tvalid ∧ s'.sess = s.sess ∧
      s'.acc = s.acc ∧ s'.result = s.result ∧ s'.rflInLo = s.rflInLo ∧ s'.rflInHi = s.rflInHi ∧
      s'.rflOutLo = s.rflOutLo ∧ s'.rflOutHi = s.rflOutHi)

/-- Rule R158: CONFIGURE, the engine commands and REFLECT neither read nor change CACC, CRESULT and CSESS. -/
def Obligations.EngineCommandsIgnoreTheCcittCore : Prop :=
  ∀ (i : Instr) (s t : State) (c r : Half) (f : Bool), isEngine i = true → exec i s = .next t →
    (t.cacc = s.cacc ∧ t.cresult = s.cresult ∧ t.csess = s.csess) ∧
    exec i { s with cacc := c, cresult := r, csess := f } =
      .next { t with cacc := c, cresult := r, csess := f }

/-- Rules R158 and R140: an engine or REFLECT command and a CCITT command complete and give the same state in either
order, so interleaved sessions compute as if each ran alone: where both meet no error, where exactly one does, and
where both do with an error recorded before. Left out is the case where both meet an error with none recorded: the
one that runs first is then recorded (rule R182), so ERR and ERRINFO depend on the order. -/
def Obligations.EngineAndCcittCommandsCommute : Prop :=
  ∀ (i j : Instr) (s : State), isEngine i = true → isCcitt j = true →
    (commandError i s = .none ∨ commandError j s = .none ∨ s.err ≠ .none) →
    ∃ a b t, exec i s = .next a ∧ exec j s = .next b ∧ exec j a = .next t ∧ exec i b = .next t
end

