-- ==== Sys2Proof/Laws/Algorithms.lean ====
section
/-! SUPPORT. Spec lemmas of the pure functions: the masks, the table as data, the bits of reflect. -/

namespace Sys2Proof.Machine

/-- A read of the table whose entry `i` is `f i` gives `f i`. -/
@[simp] theorem entryOf_tableOf (f : Byte → Word) (i : Byte) : entryOf (tableOf f) i = f i := by
  simp [entryOf, tableOf]

/-- The generated table holds the generated entries (rule R114). -/
@[simp] theorem entryOf_genTable (o : Nat) (p : Word) (ri : Bool) (i : Byte) :
    entryOf (genTable o p ri) i = genEntry i o p ri := by
  simp [genTable]

/-- The bits of a mask (rule R9). -/
theorem getLsbD_mask {o : Nat} (h : o ≤ 32) (k : Nat) : (mask o).getLsbD k = decide (k < o) := by
  have hlt : 2 ^ o - 1 < 2 ^ 32 := by
    have := Nat.pow_le_pow_right (n := 2) (by omega) h
    have := Nat.two_pow_pos o
    omega
  simp only [mask, BitVec.getLsbD_ofNat, Nat.testBit_two_pow_sub_one]
  by_cases hk : k < o
  · simp [hk]; omega
  · simp [hk]

/-- Masking to `o` bits is the remainder by `2^o` (rule R9). -/
theorem toNat_and_mask {o : Nat} (h : o ≤ 32) (v : Word) : (v &&& mask o).toNat = v.toNat % 2 ^ o := by
  have hlt : 2 ^ o - 1 < 2 ^ 32 := by
    have := Nat.pow_le_pow_right (n := 2) (by omega) h
    have := Nat.two_pow_pos o
    omega
  rw [BitVec.toNat_and, mask, BitVec.toNat_ofNat, Nat.mod_eq_of_lt hlt, Nat.and_two_pow_sub_one_eq_mod]

/-- An admitted order lies between 8 and 32. -/
theorem Admitted.bounds {o : Nat} (h : Admitted o) : 8 ≤ o ∧ o ≤ 32 := by
  unfold Admitted at h; omega

/-- CONFIGURE's test is membership in the set of admitted orders (rule R111). -/
theorem orderAdmitted_iff (o : Nat) : orderAdmitted o = true ↔ Admitted o := by
  simp [orderAdmitted, admitOrders, Admitted]

/-- The loop of rule R100 after `m` bits: bit `j` of the result is set by bit `n - 1 - j` once it was visited. -/
theorem reflectLoop_getLsbD (v : DWord) (n : Nat) (hn : n ≤ 64) :
    ∀ m, m ≤ n → ∀ j, (reflectLoop v n m).getLsbD j =
      (decide (j < n) && decide (n - 1 - j < m) && v.getLsbD (n - 1 - j)) := by
  intro m
  induction m with
  | zero => intro _ j; simp [reflectLoop]
  | succ m ih =>
    intro hm j
    have ih := ih (by omega) j
    have bit : ((1#64) <<< (n - 1 - m)).getLsbD j = decide (j = n - 1 - m) := by
      rw [BitVec.getLsbD_shiftLeft, BitVec.getLsbD_one]
      by_cases h : j = n - 1 - m
      · subst h; simp; omega
      · simp [h]; omega
    unfold reflectLoop
    by_cases hj : j = n - 1 - m
    · have e : n - 1 - j = m := by omega
      have hjn : j < n := by omega
      split <;> rename_i hv <;> simp_all
    · by_cases hjn : j < n
      · have : (n - 1 - j < m + 1) ↔ (n - 1 - j < m) := by omega
        split <;> simp [ih, bit, hj, this]
      · split <;> simp [ih, bit, hj, hjn]

/-- The bits of reflect (rule R100). -/
theorem reflect_getLsbD (v : DWord) (n j : Nat) (hn : n ≤ 64) :
    (reflect v n).getLsbD j = (decide (j < n) && v.getLsbD (n - 1 - j)) := by
  rw [reflect, reflectLoop_getLsbD v n hn n le_rfl]
  by_cases h : j < n <;> simp [h]; intro; omega

/-- The bits of reflect on a 32-bit value (rules R100, R103). -/
theorem reflectWord_getLsbD (v : Word) (n j : Nat) (hn : n ≤ 32) :
    (reflectWord v n).getLsbD j = (decide (j < n) && v.getLsbD (n - 1 - j)) := by
  simp only [reflectWord, BitVec.getLsbD_setWidth, reflect_getLsbD _ _ _ (show n ≤ 64 by omega)]
  by_cases h : j < n
  · simp [h, show j < 32 by omega, show n - 1 - j < 64 by omega]
  · simp [h]

/-- A value whose bits at `n` and above are zero is below `2^n`. -/
theorem toNat_lt_of_getLsbD {w n : Nat} (v : BitVec w) (h : ∀ k, n ≤ k → v.getLsbD k = false) :
    v.toNat < 2 ^ n := by
  apply Nat.lt_pow_two_of_testBit
  intro i hi
  simpa [BitVec.testBit_toNat] using h i hi

/-- A value below `2^o` is its own mask. -/
theorem and_mask_of_lt {o : Nat} (h : o ≤ 32) (v : Word) (hv : v.toNat < 2 ^ o) : v &&& mask o = v := by
  apply BitVec.eq_of_toNat_eq
  rw [toNat_and_mask h, Nat.mod_eq_of_lt hv]

/-- A reflected value is below `2^n` (rule R102, law 1). -/
theorem reflectWord_lt (v : Word) (n : Nat) (hn : n ≤ 32) : (reflectWord v n).toNat < 2 ^ n := by
  apply toNat_lt_of_getLsbD
  intro k hk
  rw [reflectWord_getLsbD _ _ _ hn]
  simp; omega

/-- A generated entry is below `2^o` (rule R115, law 3). -/
theorem genEntry_lt (i : Byte) (o : Nat) (p : Word) (ri : Bool) (h : o ≤ 32) :
    (genEntry i o p ri).toNat < 2 ^ o := by
  rw [genEntry, toNat_and_mask h]
  exact Nat.mod_lt _ (Nat.two_pow_pos _)

/-- One iteration of the generator is linear over GF(2). -/
theorem genShift_xor (o : Nat) (p r r' : Word) :
    genShift o p r ^^^ genShift o p r' = genShift o p (r ^^^ r') := by
  have shift : ((r ^^^ r') <<< 1 &&& mask o) = (r <<< 1 &&& mask o) ^^^ (r' <<< 1 &&& mask o) := by
    apply BitVec.eq_of_getLsbD_eq
    intro k hk
    simp only [BitVec.getLsbD_and, BitVec.getLsbD_xor, BitVec.getLsbD_shiftLeft]
    cases (mask o).getLsbD k <;> by_cases h : k < 1 <;> simp [h, hk]
  unfold genShift
  rw [BitVec.getLsbD_xor, shift]
  generalize (r <<< 1 &&& mask o) = x, (r' <<< 1 &&& mask o) = y
  cases r.getLsbD (o - 1) <;> cases r'.getLsbD (o - 1) <;> simp
  · ac_rfl
  · ac_rfl
  · rw [show x ^^^ p ^^^ (y ^^^ p) = x ^^^ y ^^^ (p ^^^ p) by ac_rfl, BitVec.xor_self, BitVec.xor_zero]

/-- The generator's loop is linear over GF(2). -/
theorem genLoop_xor (o : Nat) (p : Word) (k : Nat) :
    ∀ r r' : Word, genLoop o p k r ^^^ genLoop o p k r' = genLoop o p k (r ^^^ r') := by
  induction k with
  | zero => intros; rfl
  | succ k ih => intro r r'; rw [genLoop, genLoop, ih, genShift_xor, genLoop]

end Sys2Proof.Machine
end

