-- ==== Sys2Proof/Laws/Encoding.lean ====
section
/-! SUPPORT. The fields of a command word as numbers, and the word of given fields. -/

namespace Sys2Proof

/-- The fields of a word as numbers (rule R81). -/
theorem fields_toNat (w : Word) :
    (opcOf w).toNat = w.toNat % 2 ^ 8 ∧ (imm8Of w).toNat = w.toNat / 2 ^ 8 % 2 ^ 8 ∧
    (countOf w).toNat = w.toNat / 2 ^ 16 % 2 ^ 7 ∧ (rsvOf w).toNat = w.toNat / 2 ^ 23 := by
  simp [opcOf, imm8Of, countOf, rsvOf, BitVec.extractLsb'_toNat, Nat.shiftRight_eq_div_pow]
  have := w.isLt
  omega

/-- The word of given fields as a number (rules R81, R83). -/
theorem commandWord_toNat (n : Count) (b o : Byte) :
    (commandWord n b o).toNat = o.toNat + b.toNat * 2 ^ 8 + n.toNat * 2 ^ 16 := by
  simp only [commandWord, BitVec.toNat_append]
  rw [← Nat.shiftLeft_add_eq_or_of_lt o.isLt, ← Nat.shiftLeft_add_eq_or_of_lt b.isLt,
    ← Nat.shiftLeft_add_eq_or_of_lt n.isLt]
  simp [Nat.shiftLeft_eq]
  omega

/-- The fields of a built word are the fields it was built from, and its reserved bits are zero. -/
theorem fields_commandWord (n : Count) (b o : Byte) :
    opcOf (commandWord n b o) = o ∧ imm8Of (commandWord n b o) = b ∧ countOf (commandWord n b o) = n ∧
    rsvOf (commandWord n b o) = 0 := by
  have f := fields_toNat (commandWord n b o)
  have t := commandWord_toNat n b o
  have hn := n.isLt
  have hb := b.isLt
  have ho := o.isLt
  have z : (0 : BitVec 9).toNat = 0 := rfl
  refine ⟨?_, ?_, ?_, ?_⟩ <;> apply BitVec.eq_of_toNat_eq <;> omega

end Sys2Proof
end

