-- ==== Sys2Proof/Laws/PerInstr.lean ====
section
/-! SUPPORT. Statements about every command as syntax, one lemma per constructor. -/

namespace Sys2Proof.Laws.EncodeShape

/-- The word of a command has the command's opcode and zero reserved bits (rules R81, R84). -/
def Statement (i : Instr) : Prop := opcOf (encode i) = opcode i ∧ rsvOf (encode i) = 0

theorem clrerr : Statement .clrerr := by
  obtain ⟨h1, -, -, h4⟩ := fields_commandWord 0 0 0x01
  exact ⟨h1, h4⟩

theorem reflect (n : Count) : Statement (.reflect n) := by
  obtain ⟨h1, -, -, h4⟩ := fields_commandWord n 0 0x02
  exact ⟨h1, h4⟩

theorem configure : Statement .configure := by
  obtain ⟨h1, -, -, h4⟩ := fields_commandWord 0 0 0x10
  exact ⟨h1, h4⟩

theorem crcBegin : Statement .crcBegin := by
  obtain ⟨h1, -, -, h4⟩ := fields_commandWord 0 0 0x20
  exact ⟨h1, h4⟩

theorem crcByte (b : Byte) : Statement (.crcByte b) := by
  obtain ⟨h1, -, -, h4⟩ := fields_commandWord 0 b 0x21
  exact ⟨h1, h4⟩

theorem crcEnd : Statement .crcEnd := by
  obtain ⟨h1, -, -, h4⟩ := fields_commandWord 0 0 0x22
  exact ⟨h1, h4⟩

theorem ccittBegin : Statement .ccittBegin := by
  obtain ⟨h1, -, -, h4⟩ := fields_commandWord 0 0 0x30
  exact ⟨h1, h4⟩

theorem ccittByte (b : Byte) : Statement (.ccittByte b) := by
  obtain ⟨h1, -, -, h4⟩ := fields_commandWord 0 b 0x31
  exact ⟨h1, h4⟩

theorem ccittEndRaw : Statement .ccittEndRaw := by
  obtain ⟨h1, -, -, h4⟩ := fields_commandWord 0 0 0x32
  exact ⟨h1, h4⟩

theorem ccittEndFinal : Statement .ccittEndFinal := by
  obtain ⟨h1, -, -, h4⟩ := fields_commandWord 0 0 0x33
  exact ⟨h1, h4⟩

end Sys2Proof.Laws.EncodeShape
end

