-- ==== Sys2Proof/Laws/State.lean ====
section
/-! SUPPORT. One lemma per field of State for each operation that updates it. -/

namespace Sys2Proof.Machine

/-! `setTvalid` -/

@[simp] theorem setTvalid_cfg (s : State) : (setTvalid s).cfg = s.cfg := rfl
@[simp] theorem setTvalid_act (s : State) : (setTvalid s).act = s.act := rfl
@[simp] theorem setTvalid_table (s : State) : (setTvalid s).table = s.table := rfl
@[simp] theorem setTvalid_tvalid (s : State) : (setTvalid s).tvalid = true := rfl
@[simp] theorem setTvalid_sess (s : State) : (setTvalid s).sess = s.sess := rfl
@[simp] theorem setTvalid_csess (s : State) : (setTvalid s).csess = s.csess := rfl
@[simp] theorem setTvalid_acc (s : State) : (setTvalid s).acc = s.acc := rfl
@[simp] theorem setTvalid_result (s : State) : (setTvalid s).result = s.result := rfl
@[simp] theorem setTvalid_cacc (s : State) : (setTvalid s).cacc = s.cacc := rfl
@[simp] theorem setTvalid_cresult (s : State) : (setTvalid s).cresult = s.cresult := rfl
@[simp] theorem setTvalid_rflInLo (s : State) : (setTvalid s).rflInLo = s.rflInLo := rfl
@[simp] theorem setTvalid_rflInHi (s : State) : (setTvalid s).rflInHi = s.rflInHi := rfl
@[simp] theorem setTvalid_rflOutLo (s : State) : (setTvalid s).rflOutLo = s.rflOutLo := rfl
@[simp] theorem setTvalid_rflOutHi (s : State) : (setTvalid s).rflOutHi = s.rflOutHi := rfl
@[simp] theorem setTvalid_err (s : State) : (setTvalid s).err = s.err := rfl
@[simp] theorem setTvalid_errinfo (s : State) : (setTvalid s).errinfo = s.errinfo := rfl
@[simp] theorem setTvalid_inbox (s : State) : (setTvalid s).inbox = s.inbox := rfl
@[simp] theorem setTvalid_outbox (s : State) : (setTvalid s).outbox = s.outbox := rfl
@[simp] theorem setTvalid_unspecCount (s : State) : (setTvalid s).unspecCount = s.unspecCount := rfl

/-! `openSession` -/

@[simp] theorem openSession_cfg (s : State) : (openSession s).cfg = s.cfg := rfl
@[simp] theorem openSession_act (s : State) : (openSession s).act = s.act := rfl
@[simp] theorem openSession_table (s : State) : (openSession s).table = s.table := rfl
@[simp] theorem openSession_tvalid (s : State) : (openSession s).tvalid = s.tvalid := rfl
@[simp] theorem openSession_sess (s : State) : (openSession s).sess = true := rfl
@[simp] theorem openSession_csess (s : State) : (openSession s).csess = s.csess := rfl
@[simp] theorem openSession_acc (s : State) : (openSession s).acc = s.acc := rfl
@[simp] theorem openSession_result (s : State) : (openSession s).result = s.result := rfl
@[simp] theorem openSession_cacc (s : State) : (openSession s).cacc = s.cacc := rfl
@[simp] theorem openSession_cresult (s : State) : (openSession s).cresult = s.cresult := rfl
@[simp] theorem openSession_rflInLo (s : State) : (openSession s).rflInLo = s.rflInLo := rfl
@[simp] theorem openSession_rflInHi (s : State) : (openSession s).rflInHi = s.rflInHi := rfl
@[simp] theorem openSession_rflOutLo (s : State) : (openSession s).rflOutLo = s.rflOutLo := rfl
@[simp] theorem openSession_rflOutHi (s : State) : (openSession s).rflOutHi = s.rflOutHi := rfl
@[simp] theorem openSession_err (s : State) : (openSession s).err = s.err := rfl
@[simp] theorem openSession_errinfo (s : State) : (openSession s).errinfo = s.errinfo := rfl
@[simp] theorem openSession_inbox (s : State) : (openSession s).inbox = s.inbox := rfl
@[simp] theorem openSession_outbox (s : State) : (openSession s).outbox = s.outbox := rfl
@[simp] theorem openSession_unspecCount (s : State) : (openSession s).unspecCount = s.unspecCount := rfl

/-! `closeSession` -/

@[simp] theorem closeSession_cfg (s : State) : (closeSession s).cfg = s.cfg := rfl
@[simp] theorem closeSession_act (s : State) : (closeSession s).act = s.act := rfl
@[simp] theorem closeSession_table (s : State) : (closeSession s).table = s.table := rfl
@[simp] theorem closeSession_tvalid (s : State) : (closeSession s).tvalid = s.tvalid := rfl
@[simp] theorem closeSession_sess (s : State) : (closeSession s).sess = false := rfl
@[simp] theorem closeSession_csess (s : State) : (closeSession s).csess = s.csess := rfl
@[simp] theorem closeSession_acc (s : State) : (closeSession s).acc = s.acc := rfl
@[simp] theorem closeSession_result (s : State) : (closeSession s).result = s.result := rfl
@[simp] theorem closeSession_cacc (s : State) : (closeSession s).cacc = s.cacc := rfl
@[simp] theorem closeSession_cresult (s : State) : (closeSession s).cresult = s.cresult := rfl
@[simp] theorem closeSession_rflInLo (s : State) : (closeSession s).rflInLo = s.rflInLo := rfl
@[simp] theorem closeSession_rflInHi (s : State) : (closeSession s).rflInHi = s.rflInHi := rfl
@[simp] theorem closeSession_rflOutLo (s : State) : (closeSession s).rflOutLo = s.rflOutLo := rfl
@[simp] theorem closeSession_rflOutHi (s : State) : (closeSession s).rflOutHi = s.rflOutHi := rfl
@[simp] theorem closeSession_err (s : State) : (closeSession s).err = s.err := rfl
@[simp] theorem closeSession_errinfo (s : State) : (closeSession s).errinfo = s.errinfo := rfl
@[simp] theorem closeSession_inbox (s : State) : (closeSession s).inbox = s.inbox := rfl
@[simp] theorem closeSession_outbox (s : State) : (closeSession s).outbox = s.outbox := rfl
@[simp] theorem closeSession_unspecCount (s : State) : (closeSession s).unspecCount = s.unspecCount := rfl

/-! `openCcitt` -/

@[simp] theorem openCcitt_cfg (s : State) : (openCcitt s).cfg = s.cfg := rfl
@[simp] theorem openCcitt_act (s : State) : (openCcitt s).act = s.act := rfl
@[simp] theorem openCcitt_table (s : State) : (openCcitt s).table = s.table := rfl
@[simp] theorem openCcitt_tvalid (s : State) : (openCcitt s).tvalid = s.tvalid := rfl
@[simp] theorem openCcitt_sess (s : State) : (openCcitt s).sess = s.sess := rfl
@[simp] theorem openCcitt_csess (s : State) : (openCcitt s).csess = true := rfl
@[simp] theorem openCcitt_acc (s : State) : (openCcitt s).acc = s.acc := rfl
@[simp] theorem openCcitt_result (s : State) : (openCcitt s).result = s.result := rfl
@[simp] theorem openCcitt_cacc (s : State) : (openCcitt s).cacc = s.cacc := rfl
@[simp] theorem openCcitt_cresult (s : State) : (openCcitt s).cresult = s.cresult := rfl
@[simp] theorem openCcitt_rflInLo (s : State) : (openCcitt s).rflInLo = s.rflInLo := rfl
@[simp] theorem openCcitt_rflInHi (s : State) : (openCcitt s).rflInHi = s.rflInHi := rfl
@[simp] theorem openCcitt_rflOutLo (s : State) : (openCcitt s).rflOutLo = s.rflOutLo := rfl
@[simp] theorem openCcitt_rflOutHi (s : State) : (openCcitt s).rflOutHi = s.rflOutHi := rfl
@[simp] theorem openCcitt_err (s : State) : (openCcitt s).err = s.err := rfl
@[simp] theorem openCcitt_errinfo (s : State) : (openCcitt s).errinfo = s.errinfo := rfl
@[simp] theorem openCcitt_inbox (s : State) : (openCcitt s).inbox = s.inbox := rfl
@[simp] theorem openCcitt_outbox (s : State) : (openCcitt s).outbox = s.outbox := rfl
@[simp] theorem openCcitt_unspecCount (s : State) : (openCcitt s).unspecCount = s.unspecCount := rfl

/-! `closeCcitt` -/

@[simp] theorem closeCcitt_cfg (s : State) : (closeCcitt s).cfg = s.cfg := rfl
@[simp] theorem closeCcitt_act (s : State) : (closeCcitt s).act = s.act := rfl
@[simp] theorem closeCcitt_table (s : State) : (closeCcitt s).table = s.table := rfl
@[simp] theorem closeCcitt_tvalid (s : State) : (closeCcitt s).tvalid = s.tvalid := rfl
@[simp] theorem closeCcitt_sess (s : State) : (closeCcitt s).sess = s.sess := rfl
@[simp] theorem closeCcitt_csess (s : State) : (closeCcitt s).csess = false := rfl
@[simp] theorem closeCcitt_acc (s : State) : (closeCcitt s).acc = s.acc := rfl
@[simp] theorem closeCcitt_result (s : State) : (closeCcitt s).result = s.result := rfl
@[simp] theorem closeCcitt_cacc (s : State) : (closeCcitt s).cacc = s.cacc := rfl
@[simp] theorem closeCcitt_cresult (s : State) : (closeCcitt s).cresult = s.cresult := rfl
@[simp] theorem closeCcitt_rflInLo (s : State) : (closeCcitt s).rflInLo = s.rflInLo := rfl
@[simp] theorem closeCcitt_rflInHi (s : State) : (closeCcitt s).rflInHi = s.rflInHi := rfl
@[simp] theorem closeCcitt_rflOutLo (s : State) : (closeCcitt s).rflOutLo = s.rflOutLo := rfl
@[simp] theorem closeCcitt_rflOutHi (s : State) : (closeCcitt s).rflOutHi = s.rflOutHi := rfl
@[simp] theorem closeCcitt_err (s : State) : (closeCcitt s).err = s.err := rfl
@[simp] theorem closeCcitt_errinfo (s : State) : (closeCcitt s).errinfo = s.errinfo := rfl
@[simp] theorem closeCcitt_inbox (s : State) : (closeCcitt s).inbox = s.inbox := rfl
@[simp] theorem closeCcitt_outbox (s : State) : (closeCcitt s).outbox = s.outbox := rfl
@[simp] theorem closeCcitt_unspecCount (s : State) : (closeCcitt s).unspecCount = s.unspecCount := rfl

/-! `writeRflOut` -/

@[simp] theorem writeRflOut_cfg (v : DWord) (s : State) : (writeRflOut v s).cfg = s.cfg := rfl
@[simp] theorem writeRflOut_act (v : DWord) (s : State) : (writeRflOut v s).act = s.act := rfl
@[simp] theorem writeRflOut_table (v : DWord) (s : State) : (writeRflOut v s).table = s.table := rfl
@[simp] theorem writeRflOut_tvalid (v : DWord) (s : State) : (writeRflOut v s).tvalid = s.tvalid := rfl
@[simp] theorem writeRflOut_sess (v : DWord) (s : State) : (writeRflOut v s).sess = s.sess := rfl
@[simp] theorem writeRflOut_csess (v : DWord) (s : State) : (writeRflOut v s).csess = s.csess := rfl
@[simp] theorem writeRflOut_acc (v : DWord) (s : State) : (writeRflOut v s).acc = s.acc := rfl
@[simp] theorem writeRflOut_result (v : DWord) (s : State) : (writeRflOut v s).result = s.result := rfl
@[simp] theorem writeRflOut_cacc (v : DWord) (s : State) : (writeRflOut v s).cacc = s.cacc := rfl
@[simp] theorem writeRflOut_cresult (v : DWord) (s : State) : (writeRflOut v s).cresult = s.cresult := rfl
@[simp] theorem writeRflOut_rflInLo (v : DWord) (s : State) : (writeRflOut v s).rflInLo = s.rflInLo := rfl
@[simp] theorem writeRflOut_rflInHi (v : DWord) (s : State) : (writeRflOut v s).rflInHi = s.rflInHi := rfl
@[simp] theorem writeRflOut_rflOutLo (v : DWord) (s : State) : (writeRflOut v s).rflOutLo = v.extractLsb' 0 32 := rfl
@[simp] theorem writeRflOut_rflOutHi (v : DWord) (s : State) : (writeRflOut v s).rflOutHi = v.extractLsb' 32 32 := rfl
@[simp] theorem writeRflOut_err (v : DWord) (s : State) : (writeRflOut v s).err = s.err := rfl
@[simp] theorem writeRflOut_errinfo (v : DWord) (s : State) : (writeRflOut v s).errinfo = s.errinfo := rfl
@[simp] theorem writeRflOut_inbox (v : DWord) (s : State) : (writeRflOut v s).inbox = s.inbox := rfl
@[simp] theorem writeRflOut_outbox (v : DWord) (s : State) : (writeRflOut v s).outbox = s.outbox := rfl
@[simp] theorem writeRflOut_unspecCount (v : DWord) (s : State) : (writeRflOut v s).unspecCount = s.unspecCount := rfl

/-! `clearError` -/

@[simp] theorem clearError_cfg (s : State) : (clearError s).cfg = s.cfg := rfl
@[simp] theorem clearError_act (s : State) : (clearError s).act = s.act := rfl
@[simp] theorem clearError_table (s : State) : (clearError s).table = s.table := rfl
@[simp] theorem clearError_tvalid (s : State) : (clearError s).tvalid = s.tvalid := rfl
@[simp] theorem clearError_sess (s : State) : (clearError s).sess = s.sess := rfl
@[simp] theorem clearError_csess (s : State) : (clearError s).csess = s.csess := rfl
@[simp] theorem clearError_acc (s : State) : (clearError s).acc = s.acc := rfl
@[simp] theorem clearError_result (s : State) : (clearError s).result = s.result := rfl
@[simp] theorem clearError_cacc (s : State) : (clearError s).cacc = s.cacc := rfl
@[simp] theorem clearError_cresult (s : State) : (clearError s).cresult = s.cresult := rfl
@[simp] theorem clearError_rflInLo (s : State) : (clearError s).rflInLo = s.rflInLo := rfl
@[simp] theorem clearError_rflInHi (s : State) : (clearError s).rflInHi = s.rflInHi := rfl
@[simp] theorem clearError_rflOutLo (s : State) : (clearError s).rflOutLo = s.rflOutLo := rfl
@[simp] theorem clearError_rflOutHi (s : State) : (clearError s).rflOutHi = s.rflOutHi := rfl
@[simp] theorem clearError_err (s : State) : (clearError s).err = .none := rfl
@[simp] theorem clearError_errinfo (s : State) : (clearError s).errinfo = 0 := rfl
@[simp] theorem clearError_inbox (s : State) : (clearError s).inbox = s.inbox := rfl
@[simp] theorem clearError_outbox (s : State) : (clearError s).outbox = s.outbox := rfl
@[simp] theorem clearError_unspecCount (s : State) : (clearError s).unspecCount = s.unspecCount := rfl

/-! `reply` -/

@[simp] theorem reply_cfg (r : Response) (s : State) : (reply r s).cfg = s.cfg := rfl
@[simp] theorem reply_act (r : Response) (s : State) : (reply r s).act = s.act := rfl
@[simp] theorem reply_table (r : Response) (s : State) : (reply r s).table = s.table := rfl
@[simp] theorem reply_tvalid (r : Response) (s : State) : (reply r s).tvalid = s.tvalid := rfl
@[simp] theorem reply_sess (r : Response) (s : State) : (reply r s).sess = s.sess := rfl
@[simp] theorem reply_csess (r : Response) (s : State) : (reply r s).csess = s.csess := rfl
@[simp] theorem reply_acc (r : Response) (s : State) : (reply r s).acc = s.acc := rfl
@[simp] theorem reply_result (r : Response) (s : State) : (reply r s).result = s.result := rfl
@[simp] theorem reply_cacc (r : Response) (s : State) : (reply r s).cacc = s.cacc := rfl
@[simp] theorem reply_cresult (r : Response) (s : State) : (reply r s).cresult = s.cresult := rfl
@[simp] theorem reply_rflInLo (r : Response) (s : State) : (reply r s).rflInLo = s.rflInLo := rfl
@[simp] theorem reply_rflInHi (r : Response) (s : State) : (reply r s).rflInHi = s.rflInHi := rfl
@[simp] theorem reply_rflOutLo (r : Response) (s : State) : (reply r s).rflOutLo = s.rflOutLo := rfl
@[simp] theorem reply_rflOutHi (r : Response) (s : State) : (reply r s).rflOutHi = s.rflOutHi := rfl
@[simp] theorem reply_err (r : Response) (s : State) : (reply r s).err = s.err := rfl
@[simp] theorem reply_errinfo (r : Response) (s : State) : (reply r s).errinfo = s.errinfo := rfl
@[simp] theorem reply_inbox (r : Response) (s : State) : (reply r s).inbox = s.inbox := rfl
@[simp] theorem reply_outbox (r : Response) (s : State) : (reply r s).outbox = s.outbox ++ [r] := rfl
@[simp] theorem reply_unspecCount (r : Response) (s : State) : (reply r s).unspecCount = s.unspecCount := rfl

/-! `answered` -/

@[simp] theorem answered_cfg (rest : List HostEvent) (r : Response) (s : State) : (s.answered rest r).cfg = s.cfg := rfl
@[simp] theorem answered_act (rest : List HostEvent) (r : Response) (s : State) : (s.answered rest r).act = s.act := rfl
@[simp] theorem answered_table (rest : List HostEvent) (r : Response) (s : State) : (s.answered rest r).table = s.table := rfl
@[simp] theorem answered_tvalid (rest : List HostEvent) (r : Response) (s : State) : (s.answered rest r).tvalid = s.tvalid := rfl
@[simp] theorem answered_sess (rest : List HostEvent) (r : Response) (s : State) : (s.answered rest r).sess = s.sess := rfl
@[simp] theorem answered_csess (rest : List HostEvent) (r : Response) (s : State) : (s.answered rest r).csess = s.csess := rfl
@[simp] theorem answered_acc (rest : List HostEvent) (r : Response) (s : State) : (s.answered rest r).acc = s.acc := rfl
@[simp] theorem answered_result (rest : List HostEvent) (r : Response) (s : State) : (s.answered rest r).result = s.result := rfl
@[simp] theorem answered_cacc (rest : List HostEvent) (r : Response) (s : State) : (s.answered rest r).cacc = s.cacc := rfl
@[simp] theorem answered_cresult (rest : List HostEvent) (r : Response) (s : State) : (s.answered rest r).cresult = s.cresult := rfl
@[simp] theorem answered_rflInLo (rest : List HostEvent) (r : Response) (s : State) : (s.answered rest r).rflInLo = s.rflInLo := rfl
@[simp] theorem answered_rflInHi (rest : List HostEvent) (r : Response) (s : State) : (s.answered rest r).rflInHi = s.rflInHi := rfl
@[simp] theorem answered_rflOutLo (rest : List HostEvent) (r : Response) (s : State) : (s.answered rest r).rflOutLo = s.rflOutLo := rfl
@[simp] theorem answered_rflOutHi (rest : List HostEvent) (r : Response) (s : State) : (s.answered rest r).rflOutHi = s.rflOutHi := rfl
@[simp] theorem answered_err (rest : List HostEvent) (r : Response) (s : State) : (s.answered rest r).err = s.err := rfl
@[simp] theorem answered_errinfo (rest : List HostEvent) (r : Response) (s : State) : (s.answered rest r).errinfo = s.errinfo := rfl
@[simp] theorem answered_inbox (rest : List HostEvent) (r : Response) (s : State) : (s.answered rest r).inbox = rest := rfl
@[simp] theorem answered_outbox (rest : List HostEvent) (r : Response) (s : State) : (s.answered rest r).outbox = s.outbox ++ [r] := rfl
@[simp] theorem answered_unspecCount (rest : List HostEvent) (r : Response) (s : State) : (s.answered rest r).unspecCount = s.unspecCount := rfl

/-! `configure` -/

@[simp] theorem configure_cfg (s : State) : (configure s).cfg = s.cfg := rfl
@[simp] theorem configure_act (s : State) : (configure s).act = latch s.cfg := rfl
@[simp] theorem configure_table (s : State) : (configure s).table = genTable (latch s.cfg).order (latch s.cfg).poly (latch s.cfg).ctrl.refin := rfl
@[simp] theorem configure_tvalid (s : State) : (configure s).tvalid = true := rfl
@[simp] theorem configure_sess (s : State) : (configure s).sess = s.sess := rfl
@[simp] theorem configure_csess (s : State) : (configure s).csess = s.csess := rfl
@[simp] theorem configure_acc (s : State) : (configure s).acc = s.acc := rfl
@[simp] theorem configure_result (s : State) : (configure s).result = s.result := rfl
@[simp] theorem configure_cacc (s : State) : (configure s).cacc = s.cacc := rfl
@[simp] theorem configure_cresult (s : State) : (configure s).cresult = s.cresult := rfl
@[simp] theorem configure_rflInLo (s : State) : (configure s).rflInLo = s.rflInLo := rfl
@[simp] theorem configure_rflInHi (s : State) : (configure s).rflInHi = s.rflInHi := rfl
@[simp] theorem configure_rflOutLo (s : State) : (configure s).rflOutLo = s.rflOutLo := rfl
@[simp] theorem configure_rflOutHi (s : State) : (configure s).rflOutHi = s.rflOutHi := rfl
@[simp] theorem configure_err (s : State) : (configure s).err = s.err := rfl
@[simp] theorem configure_errinfo (s : State) : (configure s).errinfo = s.errinfo := rfl
@[simp] theorem configure_inbox (s : State) : (configure s).inbox = s.inbox := rfl
@[simp] theorem configure_outbox (s : State) : (configure s).outbox = s.outbox := rfl
@[simp] theorem configure_unspecCount (s : State) : (configure s).unspecCount = s.unspecCount := rfl

/-! `raiseError`: every field but ERR and ERRINFO is kept. -/

@[simp] theorem raiseError_cfg (c : ErrCode) (info : Word) (s : State) :
    (raiseError c info s).cfg = s.cfg := by
  unfold raiseError; split <;> rfl
@[simp] theorem raiseError_act (c : ErrCode) (info : Word) (s : State) :
    (raiseError c info s).act = s.act := by
  unfold raiseError; split <;> rfl
@[simp] theorem raiseError_table (c : ErrCode) (info : Word) (s : State) :
    (raiseError c info s).table = s.table := by
  unfold raiseError; split <;> rfl
@[simp] theorem raiseError_tvalid (c : ErrCode) (info : Word) (s : State) :
    (raiseError c info s).tvalid = s.tvalid := by
  unfold raiseError; split <;> rfl
@[simp] theorem raiseError_sess (c : ErrCode) (info : Word) (s : State) :
    (raiseError c info s).sess = s.sess := by
  unfold raiseError; split <;> rfl
@[simp] theorem raiseError_csess (c : ErrCode) (info : Word) (s : State) :
    (raiseError c info s).csess = s.csess := by
  unfold raiseError; split <;> rfl
@[simp] theorem raiseError_acc (c : ErrCode) (info : Word) (s : State) :
    (raiseError c info s).acc = s.acc := by
  unfold raiseError; split <;> rfl
@[simp] theorem raiseError_result (c : ErrCode) (info : Word) (s : State) :
    (raiseError c info s).result = s.result := by
  unfold raiseError; split <;> rfl
@[simp] theorem raiseError_cacc (c : ErrCode) (info : Word) (s : State) :
    (raiseError c info s).cacc = s.cacc := by
  unfold raiseError; split <;> rfl
@[simp] theorem raiseError_cresult (c : ErrCode) (info : Word) (s : State) :
    (raiseError c info s).cresult = s.cresult := by
  unfold raiseError; split <;> rfl
@[simp] theorem raiseError_rflInLo (c : ErrCode) (info : Word) (s : State) :
    (raiseError c info s).rflInLo = s.rflInLo := by
  unfold raiseError; split <;> rfl
@[simp] theorem raiseError_rflInHi (c : ErrCode) (info : Word) (s : State) :
    (raiseError c info s).rflInHi = s.rflInHi := by
  unfold raiseError; split <;> rfl
@[simp] theorem raiseError_rflOutLo (c : ErrCode) (info : Word) (s : State) :
    (raiseError c info s).rflOutLo = s.rflOutLo := by
  unfold raiseError; split <;> rfl
@[simp] theorem raiseError_rflOutHi (c : ErrCode) (info : Word) (s : State) :
    (raiseError c info s).rflOutHi = s.rflOutHi := by
  unfold raiseError; split <;> rfl
@[simp] theorem raiseError_inbox (c : ErrCode) (info : Word) (s : State) :
    (raiseError c info s).inbox = s.inbox := by
  unfold raiseError; split <;> rfl
@[simp] theorem raiseError_outbox (c : ErrCode) (info : Word) (s : State) :
    (raiseError c info s).outbox = s.outbox := by
  unfold raiseError; split <;> rfl
@[simp] theorem raiseError_unspecCount (c : ErrCode) (info : Word) (s : State) :
    (raiseError c info s).unspecCount = s.unspecCount := by
  unfold raiseError; split <;> rfl

/-- With no error recorded, an error is recorded with its information. -/
theorem raiseError_of_none {c : ErrCode} {info : Word} {s : State} (h : s.err = .none) :
    raiseError c info s = { s with err := c, errinfo := info } := by simp [raiseError, h]

/-- With an error recorded, a later error changes nothing. -/
theorem raiseError_of_recorded {c : ErrCode} {info : Word} {s : State} (h : s.err ≠ .none) :
    raiseError c info s = s := by simp [raiseError, h]

/-- Answering the host and recording an error are independent. -/
theorem reply_raiseError (r : Response) (c : ErrCode) (info : Word) (s : State) :
    reply r (raiseError c info s) = raiseError c info (reply r s) := by
  by_cases h : s.err = .none <;> simp [raiseError, reply, h]

/-- Taking an access off the pending ones and answering it is `answered`. -/
theorem reply_of_rest (s : State) (rest : List HostEvent) (r : Response) :
    reply r { s with inbox := rest } = s.answered rest r := rfl

/-- A bus error on the access taken off the pending ones (rules R62, R182). -/
theorem busFault_of_rest (s : State) (rest : List HostEvent) (off : Offset) :
    busFault off { s with inbox := rest } = raiseError .busErr (off.setWidth 32) (s.answered rest .busErr) := by
  rw [busFault, reply_raiseError, reply_of_rest]

/-! `busFault`: every field but ERR, ERRINFO and the host's view is kept. -/

@[simp] theorem busFault_cfg (off : Offset) (s : State) : (busFault off s).cfg = s.cfg := by simp [busFault]
@[simp] theorem busFault_act (off : Offset) (s : State) : (busFault off s).act = s.act := by simp [busFault]
@[simp] theorem busFault_table (off : Offset) (s : State) : (busFault off s).table = s.table := by simp [busFault]
@[simp] theorem busFault_tvalid (off : Offset) (s : State) : (busFault off s).tvalid = s.tvalid := by simp [busFault]
@[simp] theorem busFault_sess (off : Offset) (s : State) : (busFault off s).sess = s.sess := by simp [busFault]
@[simp] theorem busFault_csess (off : Offset) (s : State) : (busFault off s).csess = s.csess := by simp [busFault]
@[simp] theorem busFault_acc (off : Offset) (s : State) : (busFault off s).acc = s.acc := by simp [busFault]
@[simp] theorem busFault_result (off : Offset) (s : State) : (busFault off s).result = s.result := by simp [busFault]
@[simp] theorem busFault_cacc (off : Offset) (s : State) : (busFault off s).cacc = s.cacc := by simp [busFault]
@[simp] theorem busFault_cresult (off : Offset) (s : State) : (busFault off s).cresult = s.cresult := by simp [busFault]
@[simp] theorem busFault_rflInLo (off : Offset) (s : State) : (busFault off s).rflInLo = s.rflInLo := by simp [busFault]
@[simp] theorem busFault_rflInHi (off : Offset) (s : State) : (busFault off s).rflInHi = s.rflInHi := by simp [busFault]
@[simp] theorem busFault_rflOutLo (off : Offset) (s : State) : (busFault off s).rflOutLo = s.rflOutLo := by simp [busFault]
@[simp] theorem busFault_rflOutHi (off : Offset) (s : State) : (busFault off s).rflOutHi = s.rflOutHi := by simp [busFault]
@[simp] theorem busFault_inbox (off : Offset) (s : State) : (busFault off s).inbox = s.inbox := by simp [busFault]
@[simp] theorem busFault_unspecCount (off : Offset) (s : State) : (busFault off s).unspecCount = s.unspecCount := by simp [busFault]
@[simp] theorem busFault_outbox (off : Offset) (s : State) :
    (busFault off s).outbox = s.outbox ++ [.busErr] := by simp [busFault]

/-! `applyReset`: the host's side is kept, the block is as after reset. -/

@[simp] theorem applyReset_cfg (s : State) : (applyReset s).cfg = Params.reset := rfl
@[simp] theorem applyReset_act (s : State) : (applyReset s).act = Params.reset := rfl
@[simp] theorem applyReset_table (s : State) : (applyReset s).table = unspecifiedContents s.unspecCount := rfl
@[simp] theorem applyReset_tvalid (s : State) : (applyReset s).tvalid = false := rfl
@[simp] theorem applyReset_sess (s : State) : (applyReset s).sess = false := rfl
@[simp] theorem applyReset_csess (s : State) : (applyReset s).csess = false := rfl
@[simp] theorem applyReset_acc (s : State) : (applyReset s).acc = 0 := rfl
@[simp] theorem applyReset_result (s : State) : (applyReset s).result = 0 := rfl
@[simp] theorem applyReset_cacc (s : State) : (applyReset s).cacc = 0 := rfl
@[simp] theorem applyReset_cresult (s : State) : (applyReset s).cresult = 0 := rfl
@[simp] theorem applyReset_rflInLo (s : State) : (applyReset s).rflInLo = 0 := rfl
@[simp] theorem applyReset_rflInHi (s : State) : (applyReset s).rflInHi = 0 := rfl
@[simp] theorem applyReset_rflOutLo (s : State) : (applyReset s).rflOutLo = 0 := rfl
@[simp] theorem applyReset_rflOutHi (s : State) : (applyReset s).rflOutHi = 0 := rfl
@[simp] theorem applyReset_err (s : State) : (applyReset s).err = .none := rfl
@[simp] theorem applyReset_errinfo (s : State) : (applyReset s).errinfo = 0 := rfl
@[simp] theorem applyReset_inbox (s : State) : (applyReset s).inbox = s.inbox := rfl
@[simp] theorem applyReset_outbox (s : State) : (applyReset s).outbox = s.outbox := rfl
@[simp] theorem applyReset_unspecCount (s : State) : (applyReset s).unspecCount = s.unspecCount + 1 := rfl

end Sys2Proof.Machine
end

