-- ==== Sys2Proof/Laws/Window.lean ====
section
/-! SUPPORT. Spec lemmas of the register window: each register's offset reaches it, and what an access that
reaches a register does. -/

namespace Sys2Proof.Machine

/-- The offset of every target reaches that target (rule R22). -/
@[simp] theorem targetAt_offset (t : Target) : targetAt t.offset = some t := by
  cases t with
  | cmd => rfl
  | reg r => cases r <;> rfl
  | table i =>
    have h : (Target.table i).offset.toNat = 0x400 + 4 * i.toNat := by simp [Target.offset]; omega
    have e : (0x400 + 4 * i.toNat - 0x400) >>> 2 = i.toNat := by rw [Nat.shiftRight_eq_div_pow]; omega
    simp only [targetAt, h]
    rw [if_neg (by omega), if_pos (by omega), e]; simp
  | crom i =>
    have h : (Target.crom i).offset.toNat = 0x800 + 4 * i.toNat := by simp [Target.offset]; omega
    have e : (0x800 + 4 * i.toNat - 0x800) >>> 2 = i.toNat := by rw [Nat.shiftRight_eq_div_pow]; omega
    simp only [targetAt, h]
    rw [if_neg (by omega), if_neg (by omega), if_pos (by omega), e]; simp

/-- Aligned means that the two low bits are zero, as a mask or as a remainder (rule R62, condition 2). -/
theorem offset_and_three (off : Offset) : off &&& 3 = 0 ↔ off.toNat % 4 = 0 := by
  rw [← BitVec.toNat_inj, BitVec.toNat_and]
  have : (3 : Offset).toNat = 2 ^ 2 - 1 := rfl
  rw [this, Nat.and_two_pow_sub_one_eq_mod]; rfl

/-- Every register's offset is aligned (rule R22). -/
@[simp] theorem offset_aligned (t : Target) : t.offset &&& 3 = 0 := by
  rw [offset_and_three]
  cases t with
  | cmd => rfl
  | reg r => cases r <;> rfl
  | table i => simp [Target.offset]
  | crom i => simp [Target.offset]

/-- A bus check passes exactly on a word access to a mapped, aligned offset with the rights it needs (rule R62). -/
theorem checkBus_eq_some {k : AccessKind} {off : Offset} {size : Nat} {s : State} {t : Target} :
    checkBus k off size s = some t ↔
      size = 4 ∧ off &&& 3 = 0 ∧ targetAt off = some t ∧ ¬(k = .write ∧ t.rights = .ro) ∧
        ¬(k = .read ∧ t.rights = .wo) ∧ ¬(k = .read ∧ (∃ i, t = .table i) ∧ s.tvalid = false) := by
  unfold checkBus
  by_cases hs : size = 4 <;> by_cases ha : off &&& 3 = 0 <;> simp only [hs, ha, ne_eq, not_true, not_false_eq_true,
    if_true, if_false, false_and, true_and, reduceCtorEq]
  cases htt : targetAt off with
  | none => simp
  | some u =>
    cases k <;> cases u <;> simp [Target.rights] <;> aesop

end Sys2Proof.Machine
end

