-- ==== Sys2Proof/Laws/Step.lean ====
section
/-! SUPPORT. Everything a step can do, said once: what performing an access answers, by cases. -/

namespace Sys2Proof.Machine

/-- A step performs the oldest pending event (rule R71). -/
theorem step_of_inbox {s : State} {e : HostEvent} {rest : List HostEvent} (h : s.inbox = e :: rest) :
    step s = performEvent e { s with inbox := rest } := by
  simp [step, h]

/-- With nothing pending a step changes nothing (rule R219). -/
theorem step_of_idle {s : State} (h : s.inbox = []) : step s = .next s := by simp [step, h]

/-- A run takes its first step and goes on from there. -/
theorem runSteps_of_step {k : Nat} {s t : State} (h : step s = .next t) : runSteps (k + 1) s = runSteps k t := by
  simp [runSteps, h]

/-- A run of no steps ends where it starts. -/
@[simp] theorem runSteps_zero (s : State) : runSteps 0 s = .next s := rfl

/-- A run of the host's interface stops or goes on with its first step. -/
theorem coreRun_succ (M : Host.Core) (k : Nat) (s : M.State) :
    (∀ t, M.step s = .next t → M.run (k + 1) s = M.run k t) ∧
    (∀ r, M.step s = .fault r → M.run (k + 1) s = .fault r) ∧
    (∀ r, M.step s = .refused r → M.run (k + 1) s = .refused r) := by
  refine ⟨fun t h => ?_, fun r h => ?_, fun r h => ?_⟩ <;> simp [Host.Core.run, h]

/-- The model's run is the run of the host's interface. -/
theorem runSteps_eq_run (k : Nat) : ∀ s : State, runSteps k s = Host.Core.run Sys2Proof.core k s := by
  induction k with
  | zero => intro s; rfl
  | succ k ih =>
    intro s
    have c := coreRun_succ Sys2Proof.core k s
    rw [runSteps]
    cases h : step s with
    | next t => exact (ih t).trans (c.1 t h).symm
    | fault r => exact (c.2.1 r h).symm
    | refused r => exact (c.2.2 r h).symm

/-- A read answers a value with the block unchanged, or is a bus error (rules R61, R62). -/
theorem performRead_cases (off : Offset) (size : Nat) (s : State) (rest : List HostEvent) :
    (∃ t v, checkBus .read off size s = some t ∧ readTarget t s = some v ∧
      performRead off size { s with inbox := rest } = .next (s.answered rest (.data v))) ∨
    performRead off size { s with inbox := rest } =
      .next (raiseError .busErr (off.setWidth 32) (s.answered rest .busErr)) := by
  have hc : checkBus .read off size { s with inbox := rest } = checkBus .read off size s := rfl
  have hr : ∀ t, readTarget t { s with inbox := rest } = readTarget t s := fun t => by cases t <;> rfl
  unfold performRead
  simp only [hc, hr, busFault_of_rest, reply_of_rest]
  cases h : checkBus .read off size s with
  | none => simp
  | some t =>
    cases hv : readTarget t s with
    | none => simp [hv]
    | some v => exact .inl ⟨t, v, rfl, hv, by simp [hv]⟩

/-- A write runs a command, raises ILLEGAL_CMD, stores to a register, or is a bus error (rules R62, R63, R80). -/
theorem performWrite_cases (off : Offset) (size : Nat) (v : Word) (s : State) (rest : List HostEvent) :
    (∃ i, checkBus .write off size s = some .cmd ∧ decode v = some i ∧
      performWrite off size v { s with inbox := rest } = exec i (s.answered rest .done)) ∨
    (checkBus .write off size s = some .cmd ∧ decode v = none ∧
      performWrite off size v { s with inbox := rest } =
        .next (raiseError .illegalCmd v (s.answered rest .done))) ∨
    (∃ r, checkBus .write off size s = some (.reg r) ∧
      performWrite off size v { s with inbox := rest } = .next (storeReg r v (s.answered rest .done))) ∨
    performWrite off size v { s with inbox := rest } =
      .next (raiseError .busErr (off.setWidth 32) (s.answered rest .busErr)) := by
  have hc : checkBus .write off size { s with inbox := rest } = checkBus .write off size s := rfl
  have hs : ∀ r, reply .done (storeReg r v { s with inbox := rest }) = storeReg r v (s.answered rest .done) :=
    fun r => by cases r <;> rfl
  unfold performWrite
  simp only [hc, busFault_of_rest, reply_of_rest, runCommand, hs]
  cases h : checkBus .write off size s with
  | none => simp
  | some t =>
    cases t with
    | cmd => cases hd : decode v with
      | none => simp
      | some i => simp
    | reg r => simp
    | table i => simp
    | crom i => simp

/-- CMD is reached only by a word access at its offset (rules R22, R62). -/
theorem checkBus_cmd {k : AccessKind} {off : Offset} {size : Nat} {s : State}
    (h : checkBus k off size s = some .cmd) : off = 0 ∧ size = 4 := by
  obtain ⟨hs, -, ht, -⟩ := checkBus_eq_some.1 h
  refine ⟨?_, hs⟩
  unfold targetAt at ht
  split at ht
  · unfold regAt at ht
    split at ht <;> simp at ht
    rename_i h0
    exact BitVec.eq_of_toNat_eq h0
  · split at ht
    · simp at ht
    · split at ht <;> simp at ht

/-- Only a register the host may write is stored to (rule R62, condition 4). -/
theorem checkBus_write_reg {off : Offset} {size : Nat} {s : State} {r : Reg}
    (h : checkBus .write off size s = some (.reg r)) : r.rights = .rw := by
  obtain ⟨-, -, -, hro, -⟩ := checkBus_eq_some.1 h
  cases r <;> simp_all [Target.rights, Reg.rights]

/-- A store changes only the staging parameters and RFL_IN (rule R63). -/
theorem storeReg_frame (r : Reg) (v : Word) (s : State) :
    (storeReg r v s).act = s.act ∧ (storeReg r v s).table = s.table ∧ (storeReg r v s).tvalid = s.tvalid ∧
    (storeReg r v s).sess = s.sess ∧ (storeReg r v s).csess = s.csess ∧ (storeReg r v s).acc = s.acc ∧
    (storeReg r v s).result = s.result ∧ (storeReg r v s).cacc = s.cacc ∧
    (storeReg r v s).cresult = s.cresult ∧ (storeReg r v s).rflOutLo = s.rflOutLo ∧
    (storeReg r v s).rflOutHi = s.rflOutHi ∧ (storeReg r v s).err = s.err ∧
    (storeReg r v s).errinfo = s.errinfo ∧ (storeReg r v s).inbox = s.inbox ∧
    (storeReg r v s).outbox = s.outbox ∧ (storeReg r v s).unspecCount = s.unspecCount := by
  cases r <;> simp [storeReg]

/-- The effect of a command that meets no error: each command's next state (rules R101 to R170). -/
def effect (i : Instr) (s : State) : State :=
  match i with
  | .clrerr => clearError s
  | .reflect n => writeRflOut (reflect (rflIn s) n.toNat) s
  | .configure => configure s
  | .crcBegin => { s with acc := seed s.act, sess := true }
  | .crcByte b => { s with acc := crcStep s.act (entryOf s.table) s.acc b }
  | .crcEnd => { s with result := crcFinal s.act s.acc, sess := false }
  | .ccittBegin => { s with cacc := 0xFFFF, csess := true }
  | .ccittByte b => { s with cacc := ccittStep s.cacc b }
  | .ccittEndRaw => { s with cresult := s.cacc, csess := false }
  | .ccittEndFinal => { s with cresult := s.cacc ^^^ 0xFFFF, csess := false }

/-- Every command either raises the one error it meets or has its effect (rules R182, R184). -/
theorem exec_eq (i : Instr) (s : State) :
    exec i s = .next (if commandError i s = .none then effect i s
      else raiseError (commandError i s) (encode i) s) := by
  cases i with
  | clrerr => rfl
  | reflect n => by_cases h : n.toNat ≤ 64 <;> simp [exec, execReflect, commandError, effect, h]
  | configure =>
    by_cases h : s.sess = true <;> by_cases ho : orderAdmitted s.cfg.order = true <;>
      simp [exec, execConfigure, commandError, effect, h, ho]
  | crcBegin =>
    by_cases h : s.tvalid = true <;> simp [exec, execCrcBegin, commandError, effect, openSession, h]
  | crcByte b => by_cases h : s.sess = true <;> simp [exec, execCrcByte, commandError, effect, h]
  | crcEnd =>
    by_cases h : s.sess = true <;> simp [exec, execCrcEnd, commandError, effect, closeSession, h]
  | ccittBegin => rfl
  | ccittByte b => by_cases h : s.csess = true <;> simp [exec, execCcittByte, commandError, effect, h]
  | ccittEndRaw =>
    by_cases h : s.csess = true <;> simp [exec, execCcittEndRaw, commandError, effect, closeCcitt, h]
  | ccittEndFinal =>
    by_cases h : s.csess = true <;> simp [exec, execCcittEndFinal, commandError, effect, closeCcitt, h]

/-- Recording an error changes nothing that a command tests: no command looks at ERR (rule R183). -/
@[simp] theorem commandError_raiseError (i : Instr) (c : ErrCode) (info : Word) (s : State) :
    commandError i (raiseError c info s) = commandError i s := by
  cases i <;> simp [commandError]

/-- The effect of every command but CLRERR is the same whatever error is recorded (rule R183). -/
theorem effect_raiseError {i : Instr} (hi : i ≠ .clrerr) (c : ErrCode) (info : Word) (s : State) :
    effect i (raiseError c info s) = raiseError c info (effect i s) := by
  by_cases h : s.err = .none <;> cases i <;>
    simp_all [raiseError, effect, configure, setTvalid, writeRflOut, rflIn]

/-- Everything a step on a pending event can do: a reset; an answered access that changes nothing; an error and
nothing else; a store; or the effect of a command that meets no error (rules R61 to R63, R182, R210). -/
theorem step_cases {s t : State} {e : HostEvent} {rest : List HostEvent} (hi : s.inbox = e :: rest)
    (hs : step s = .next t) :
    (e.isReset = true ∧ t = applyReset { s with inbox := rest }) ∨
    (∃ r, t = s.answered rest r) ∨
    (∃ c info r, c ≠ .none ∧ t = raiseError c info (s.answered rest r)) ∨
    (∃ r v, t = storeReg r v (s.answered rest .done)) ∨
    (∃ w i, e = .access (.write 0 4 w) ∧ decode w = some i ∧
      commandError i (s.answered rest .done) = .none ∧ t = effect i (s.answered rest .done)) := by
  rw [step_of_inbox hi] at hs
  cases e with
  | reset => injection hs with hs; exact .inl ⟨rfl, hs.symm⟩
  | resetDuring a => injection hs with hs; exact .inl ⟨rfl, hs.symm⟩
  | access a =>
    right
    cases a with
    | read off size =>
      simp only [performEvent, performAccess] at hs
      rcases performRead_cases off size s rest with ⟨_, v, -, -, h⟩ | h <;> rw [h] at hs <;>
        injection hs with hs
      · exact .inl ⟨_, hs.symm⟩
      · exact .inr (.inl ⟨_, _, _, by decide, hs.symm⟩)
    | write off size v =>
      simp only [performEvent, performAccess] at hs
      rcases performWrite_cases off size v s rest with ⟨i, hc, hd, h⟩ | ⟨hc, hd, h⟩ | ⟨r, hc, h⟩ | h <;>
        rw [h] at hs
      · rw [exec_eq] at hs
        injection hs with hs
        by_cases hce : commandError i (s.answered rest .done) = .none
        · obtain ⟨rfl, rfl⟩ := checkBus_cmd hc
          rw [if_pos hce] at hs
          exact .inr (.inr (.inr ⟨v, i, rfl, hd, hce, hs.symm⟩))
        · rw [if_neg hce] at hs
          exact .inr (.inl ⟨_, _, _, hce, hs.symm⟩)
      · injection hs with hs; exact .inr (.inl ⟨_, _, _, by decide, hs.symm⟩)
      · injection hs with hs; exact .inr (.inr (.inl ⟨_, _, hs.symm⟩))
      · injection hs with hs; exact .inr (.inl ⟨_, _, _, by decide, hs.symm⟩)

end Sys2Proof.Machine
end

