-- ==== Sys2Proof/Tests/Slice0.lean ====
section
/-! SUPPORT. Tests of the model: the well-formedness check, words written out from the formats of rule R83, one-step
results with the values that spec/95_test_vectors.md prints, and for every statement with hypotheses a witness that
meets them, each of its clauses at a bound of its range. -/

namespace Sys2Proof.Tests

open Sys2Proof Sys2Proof.Machine

/-! ### Well-formedness and decoding (rules R82 to R85) -/

theorem test_wf_refuses_reflect_65 : (Instr.reflect 65).wf = false := by decide
theorem test_wf_refuses_reflect_127 : (Instr.reflect 127).wf = false := by decide
theorem test_wf_accepts_reflect_64 : (Instr.reflect 64).WellFormed := by decide

theorem test_decode_clrerr : decode 0b000000000_0000000_00000000_00000001 = some .clrerr := by decide
theorem test_decode_reflect : decode 0b000000000_0001000_00000000_00000010 = some (.reflect 8) := by decide
theorem test_decode_reflect_64 : decode 0b000000000_1000000_00000000_00000010 = some (.reflect 64) := by decide
theorem test_decode_configure : decode 0b000000000_0000000_00000000_00010000 = some .configure := by decide
theorem test_decode_crcBegin : decode 0b000000000_0000000_00000000_00100000 = some .crcBegin := by decide
theorem test_decode_crcByte : decode 0b000000000_0000000_01000001_00100001 = some (.crcByte 0x41) := by decide
theorem test_decode_crcEnd : decode 0b000000000_0000000_00000000_00100010 = some .crcEnd := by decide
theorem test_decode_ccittBegin : decode 0b000000000_0000000_00000000_00110000 = some .ccittBegin := by decide
theorem test_decode_ccittByte : decode 0b000000000_0000000_10000001_00110001 = some (.ccittByte 0x81) := by decide
theorem test_decode_ccittEndRaw : decode 0b000000000_0000000_00000000_00110010 = some .ccittEndRaw := by decide
theorem test_decode_ccittEndFinal : decode 0b000000000_0000000_00000000_00110011 = some .ccittEndFinal := by decide

/-- The five cases of rule R85, each refused by its name: RSV, the all-zero word, IMM8 and N where the format has
none, and N = 65. -/
theorem test_illegal_words :
    decodeOrReason 0x00800001 = .error .reservedBits ∧ decodeOrReason 0x00000000 = .error .unassignedOpcode ∧
    decodeOrReason 0x00000101 = .error .imm8NotZero ∧ decodeOrReason 0x00010010 = .error .countNotZero ∧
    decodeOrReason 0x00014121 = .error .countNotZero ∧ decodeOrReason 0x00080102 = .error .imm8NotZero ∧
    decodeOrReason 0x00410002 = .error .countAbove64 := by decide

theorem test_table_word : decodeTableWord 32 0x00004121 = some (.crcByte 0x41) := by decide

/-! ### One step, with the values of spec/95_test_vectors.md -/

/-- A field of the next state, or none at a stop. -/
def after {α : Type} (f : State → α) : Host.Outcome State Fault Refusal → Option α
  | .next t => some (f t)
  | .fault _ => none
  | .refused _ => none

/-- The state that `SETCRC` of a parameter set leaves from reset, with the given accumulator and session flag. -/
def engine (p : Params) (acc : Word) (sess : Bool) : State :=
  { State.reset with act := p, table := genTable p.order p.poly p.ctrl.refin, tvalid := true, acc := acc, sess := sess }

/-- The catalogue's CRC-32: (32, 0x04C11DB7, 0xFFFFFFFF, 0xFFFFFFFF, 1, 1). -/
def crc32 : Params :=
  { ctrl := { order := 32, refin := true, refout := true }, poly := 0x04C11DB7, init := 0xFFFFFFFF,
    xorout := 0xFFFFFFFF }

/-- The CRC-16 of table L2.3a, row 2: (16, 0x1021, 0, 0, 0, 0). -/
def crc16 : Params :=
  { ctrl := { order := 16, refin := false, refout := false }, poly := 0x1021, init := 0, xorout := 0 }

/-- Program L2.2e's engine: (8, 0x07, 0, 0, 0, 0). -/
def crc8 : Params :=
  { ctrl := { order := 8, refin := false, refout := false }, poly := 0x07, init := 0, xorout := 0 }

/-- The reset state with the CCITT accumulator given and its session open. -/
def ccitt (c : Half) : State := { State.reset with cacc := c, csess := true }

/-- Rule R170's example: STATUS 0x403 becomes 0x003. -/
theorem test_clrerr_status :
    after (readReg .status)
      (exec .clrerr { engine crc8 0 true with err := .noSession, errinfo := 0x4121 }) = some 0x00000003 := by
  decide +kernel

/-- L2.1, row 14. -/
theorem test_reflect_64 :
    after (fun t => (t.rflOutHi, t.rflOutLo))
      (exec (.reflect 64) { State.reset with rflInHi := 0x01234567, rflInLo := 0x89ABCDEF })
      = some (0xF7B3D591, 0xE6A2C480) := by decide +kernel

/-- L2.1, row 12: only the low byte is reflected. -/
theorem test_reflect_8 :
    after (fun t => t.rflOutLo) (exec (.reflect 8) { State.reset with rflInLo := 0xABCD }) = some 0xB3 := by
  decide +kernel

/-- L2.2c: the staged bits above order 16 are dropped. -/
theorem test_configure_masks :
    after (fun t => (t.act.poly, t.act.init, t.act.xorout))
      (exec .configure { State.reset with cfg := {
        ctrl := { order := 16, refin := false, refout := false },
        poly := 0x00011021, init := 0x0001FFFF, xorout := 0x000F0000 } })
      = some (0x1021, 0xFFFF, 0) := by decide +kernel

/-- L2.2b: an order that is not admitted. -/
theorem test_configure_bad_order :
    after (fun t => (readReg .status t, t.errinfo))
      (exec .configure { State.reset with cfg := { Params.reset with ctrl := Ctrl.ofWord 7 } })
      = some (0x00000200, 0x00000010) := by decide +kernel

/-- L2.2a, the last row and the row of CRC-32: table entries. -/
theorem test_table_entries :
    genEntry 0xFF 32 0x04C11DB7 true = 0x2D02EF8D ∧ genEntry 1 32 0x1EDC6F41 true = 0xF26B8303 ∧
    genEntry 0x80 24 0x864CFB false = 0x3347A4 ∧ genEntry 0xFF 8 0x31 true = 0x35 := by decide +kernel

/-- Rule R130: with REFIN the seed is reflected. -/
theorem test_crcBegin_reflects :
    after (fun t => (t.acc, t.sess))
      (exec .crcBegin (engine { crc16 with ctrl := { order := 16, refin := true, refout := false }, init := 0x1234 }
        0 false)) = some (0x2C48, true) := by decide +kernel

/-- L2.3d: CRC_BEGIN before any CONFIGURE. -/
theorem test_crcBegin_not_configured :
    after (fun t => (readReg .status t, t.errinfo)) (exec .crcBegin State.reset) = some (0x00000300, 0x00000020) := by
  decide +kernel

/-- Rule R132's example. -/
theorem test_crcByte_reflected :
    after (fun t => t.acc) (exec (.crcByte 0x31) (engine crc32 0xFFFFFFFF true)) = some 0x7C231048 := by
  decide +kernel

/-- L2.3a, row 2: the second byte of the not reflected CRC-16. -/
theorem test_crcByte_plain :
    after (fun t => t.acc) (exec (.crcByte 0x32) (engine crc16 0x2672 true)) = some 0x20B5 := by decide +kernel

/-- Rule R135's example. -/
theorem test_crcEnd :
    after (fun t => (t.result, t.acc, t.sess)) (exec .crcEnd (engine crc32 0x340BC6D9 true))
      = some (0xCBF43926, 0x340BC6D9, false) := by decide +kernel

theorem test_ccittBegin :
    after (fun t => (t.cacc, t.csess)) (exec .ccittBegin State.reset) = some (0xFFFF, true) := by decide +kernel

/-- Rule R153's example. -/
theorem test_ccittByte :
    after (fun t => t.cacc) (exec (.ccittByte 0x31) (ccitt 0xFFFF)) = some 0x2F8D := by decide +kernel

/-- Rule R155's example. -/
theorem test_ccittEndRaw :
    after (fun t => (t.cresult, t.csess)) (exec .ccittEndRaw (ccitt 0x6F91)) = some (0x6F91, false) := by
  decide +kernel

/-- Rule R156's example. -/
theorem test_ccittEndFinal :
    after (fun t => (t.cresult, t.csess)) (exec .ccittEndFinal (ccitt 0x6F91)) = some (0x906E, false) := by
  decide +kernel

/-- The check values of rule R213. -/
theorem test_check_values :
    parameterizedCrc crc32 (asciiBytes "123456789") = 0xCBF43926 ∧
    computeCrc16Final (asciiBytes "123456789") = 0x906E ∧ computeCrc16Raw (asciiBytes "123456789") = 0x6F91 := by
  decide +kernel

/-- L2.2d: the write mask of CFG_CTRL. -/
theorem test_cfg_ctrl_mask : (Ctrl.ofWord 0xFFFFFFF0).toWord = 0x00000330 := by decide +kernel

/-- A step runs the word that `withFetchWord` places: the illegal word of rule R171's example. -/
theorem test_step_illegal :
    after (fun t => (readReg .status t, t.errinfo)) (step (State.reset.withFetchWord 32 0))
      = some (0x00000100, 0) := by decide +kernel

/-- A step runs the word that `withFetchWord` places, first after reset. -/
theorem test_step_command :
    after (fun t => (t.cacc, t.inbox.length)) (step (State.reset.withFetchWord 32 0x30)) = some (0xFFFF, 0) := by
  decide +kernel

/-- Rule R62: a byte read is an error response, and BUS_ERR with the offset is recorded. -/
theorem test_byte_read_is_bus_error :
    after (fun t => (readReg .status t, t.errinfo, t.outbox))
      (step { State.reset with inbox := [.access (.read 0x030 1)] }) = some (0x00000600, 0x30, [.busErr]) := by
  decide +kernel

/-! ### Witnesses: the hypotheses of the statements can be met -/

/-- The state with the given events pending. -/
def pending (s : State) (es : List HostEvent) : State := { s with inbox := es }

/-- An engine with its session open, and the CCITT session open beside it. -/
def busy : State := { engine crc16 0x2672 true with csess := true, cacc := 0x2F8D }

theorem crc16_latched : crc16.Latched :=
  ⟨.inr (.inl rfl), by decide +kernel, by decide +kernel, by decide +kernel⟩

theorem witness_EncodedCommandDecodesToItself :
    (Instr.reflect 0).WellFormed ∧ (Instr.reflect 64).WellFormed ∧ (Instr.crcByte 0xFF).WellFormed := by decide

theorem witness_DecodedWordIsTheWordOfItsCommand :
    decode 0x00400002 = some (.reflect 64) ∧ decode 0x0000FF31 = some (.ccittByte 0xFF) := by decide

/-- Words at the bounds of each of the five cases, and a pending write of one, with and without a recorded error. -/
theorem witness_IllegalWordsRaiseIllegalCmd :
    decode 0x00800001 = none ∧ decode 0xFFFFFFFF = none ∧ decode 0x00000000 = none ∧ decode 0x00000034 = none ∧
    decode 0x00000110 = none ∧ decode 0x00010020 = none ∧ decode 0x00010021 = none ∧ decode 0x007F0031 = none ∧
    decode 0x00000102 = none ∧ decode 0x00410002 = none ∧
    (∃ s : State, s.inbox = .access (.write 0x000 4 0x00410002) :: [] ∧ s.err = .none) ∧
    (∃ s : State, s.inbox = .access (.write 0x000 4 0x00410002) :: [] ∧ s.err = .busErr) :=
  ⟨by decide, by decide, by decide, by decide, by decide, by decide, by decide, by decide, by decide, by decide,
    ⟨pending State.reset [.access (.write 0x000 4 0x00410002)], rfl, rfl⟩,
    ⟨pending { State.reset with err := .busErr } [.access (.write 0x000 4 0x00410002)], rfl, rfl⟩⟩

theorem witness_CommandWriteRunsTheDecodedCommand :
    (∃ s w i rest, decode w = some i ∧ s.inbox = HostEvent.access (.write 0x000 4 w) :: rest ∧ State.sess s = true) ∧
    (∃ s w rest, decode w = none ∧ State.inbox s = .access (.write 0x000 4 w) :: rest) ∧
    (∃ s size rest, State.inbox s = .access (.read 0x000 size) :: rest) :=
  ⟨⟨pending busy [.access (.write 0x000 4 0x21)], 0x21, .crcByte 0, [], by decide, rfl, rfl⟩,
    ⟨pending busy [.access (.write 0x000 4 0)], 0, [], by decide, rfl⟩,
    ⟨pending busy [.access (.read 0x000 4)], 4, [], rfl⟩⟩

theorem witness_ReflectWritesRflOut :
    (∃ w, opcOf w = 0x02 ∧ 64 < (countOf w).toNat) ∧ (∃ w, opcOf w = 0x02 ∧ imm8Of w ≠ 0) ∧
    (∃ w : Word, opcOf w = 0x02 ∧ w.toNat / 2 ^ 23 ≠ 0) ∧ (64 : Count).toNat ≤ 64 ∧ (0 : Count).toNat ≤ 64 :=
  ⟨⟨0x00410002, by decide⟩, ⟨0x00000102, by decide⟩, ⟨0x00800002, by decide⟩, by decide, by decide⟩

theorem witness_ReflectReversesTheLowBits :
    (∃ n k : Nat, n ≤ 64 ∧ k < n ∧ k = 63) ∧ (∃ n k : Nat, n ≤ 64 ∧ n ≤ k ∧ n = 0 ∧ k = 0) ∧
    (∃ (v v' : DWord) (n : Nat), n ≤ 64 ∧ v ≠ v' ∧ ∀ k, k < n → v'.getLsbD k = v.getLsbD k) :=
  ⟨⟨64, 63, by omega⟩, ⟨0, 0, by omega⟩, ⟨1, 3, 1, by omega, by decide, by decide⟩⟩

theorem witness_ReflectLaws : (∃ n : Nat, n ≤ 64 ∧ n = 64 ∧ 1 ≤ n) ∧ (∃ n : Nat, n ≤ 64 ∧ n = 0) := by simp

/-- CONFIGURE's three clauses: a session open, the unadmitted orders next to the admitted ones, the admitted bounds. -/
theorem witness_ConfigureLatchesAndGeneratesOrRefuses :
    (∃ s : State, s.sess = true) ∧
    (∀ o ∈ ([0, 7, 9, 33, 63] : List (BitVec 6)), ∃ s : State, s.sess = false ∧ s.cfg.ctrl.order = o ∧
      ¬ Admitted s.cfg.ctrl.order.toNat) ∧
    (∀ o ∈ ([8, 32] : List (BitVec 6)), ∃ s : State, s.sess = false ∧ s.cfg.ctrl.order = o ∧
      Admitted s.cfg.ctrl.order.toNat) := by
  refine ⟨⟨busy, rfl⟩, fun o ho => ?_, fun o ho => ?_⟩ <;>
  · refine ⟨{ State.reset with cfg := { Params.reset with ctrl := ⟨o, false, false⟩ } }, rfl, rfl, ?_⟩
    fin_cases ho <;> simp [Admitted]

theorem witness_CrcBeginSeedsAndOpens :
    State.reset.tvalid = false ∧ busy.tvalid = true ∧ busy.act.ctrl.refin = false ∧
    (engine crc32 0 false).tvalid = true ∧ (engine crc32 0 false).act.ctrl.refin = true := ⟨rfl, rfl, rfl, rfl, rfl⟩

theorem witness_CrcByteMixesOneByte : State.reset.sess = false ∧ busy.sess = true := ⟨rfl, rfl⟩

theorem witness_CrcEndWritesResultAndCloses : State.reset.sess = false ∧ busy.sess = true := ⟨rfl, rfl⟩

theorem witness_CcittByteMixesOneByte : State.reset.csess = false ∧ busy.csess = true := ⟨rfl, rfl⟩

theorem witness_CcittEndRawWritesCacc : State.reset.csess = false ∧ busy.csess = true := ⟨rfl, rfl⟩

theorem witness_CcittEndFinalWritesInvertedCacc : State.reset.csess = false ∧ busy.csess = true := ⟨rfl, rfl⟩

/-- Both branches, at the least and the greatest order, with the greatest accumulator and table entries. -/
theorem witness_CrcStepAsArithmetic :
    (∃ (p : Params) (T : Byte → Word) (acc : Word), Admitted p.order ∧ acc.toNat < 2 ^ p.order ∧
      (∀ i, (T i).toNat < 2 ^ p.order) ∧ p.ctrl.refin = false ∧ p.order = 8 ∧ acc = 0xFF) ∧
    (∃ (p : Params) (T : Byte → Word) (acc : Word), Admitted p.order ∧ acc.toNat < 2 ^ p.order ∧
      (∀ i, (T i).toNat < 2 ^ p.order) ∧ p.ctrl.refin = true ∧ p.order = 32 ∧ acc = 0xFFFFFFFF) :=
  ⟨⟨crc8, fun _ => 0xFF, 0xFF, .inl rfl, by decide,
      fun _ => show (0xFF : Word).toNat < 2 ^ 8 by decide, rfl, rfl, rfl⟩,
    ⟨crc32, fun _ => 0xFFFFFFFF, 0xFFFFFFFF, .inr (.inr (.inr rfl)), by decide,
      fun _ => (0xFFFFFFFF : Word).isLt, rfl, rfl, rfl⟩⟩

theorem witness_CrcFinalBitByBit : Admitted crc8.order ∧ Admitted crc32.order :=
  ⟨.inl rfl, .inr (.inr (.inr rfl))⟩

theorem witness_EmptyBufferResult :
    (∃ s : State, s.tvalid = true ∧ s.act.Latched) ∧ (∃ P : Params, Admitted P.order) :=
  ⟨⟨busy, rfl, crc16_latched⟩, ⟨crc8, .inl rfl⟩⟩

theorem witness_GeneratedTableLaws :
    (Admitted 8 ∧ (0xFF : Word).toNat < 2 ^ 8) ∧ (Admitted 32 ∧ (0xFFFFFFFF : Word).toNat < 2 ^ 32) :=
  ⟨⟨.inl rfl, by decide⟩, ⟨.inr (.inr (.inr rfl)), by decide⟩⟩

theorem witness_TableDependsOnOrderPolyRefinOnly :
    ∃ s t : State, s.sess = false ∧ t.sess = false ∧ Admitted s.cfg.order ∧ s.cfg.ctrl.order = t.cfg.ctrl.order ∧
      s.cfg.poly = t.cfg.poly ∧ s.cfg.ctrl.refin = t.cfg.ctrl.refin ∧ s.cfg.init ≠ t.cfg.init ∧
      s.cfg.ctrl.refout ≠ t.cfg.ctrl.refout :=
  ⟨{ State.reset with cfg := crc16 },
    { State.reset with cfg := { crc16 with init := 0xFFFF, ctrl := ⟨16, false, true⟩ } },
    rfl, rfl, .inr (.inl rfl), rfl, rfl, rfl, by decide, by decide⟩

theorem witness_GeneratorWithoutMasksAgrees :
    (Admitted 8 ∧ (0xFF : Word).toNat < 2 ^ 8) ∧ (Admitted 32 ∧ (0xFFFFFFFF : Word).toNat < 2 ^ 32) :=
  witness_GeneratedTableLaws

/-- A set whose every value has bits above the order. -/
theorem witness_LatchingMasksChangeNoValue :
    ∃ P : Params, Admitted P.order ∧ 2 ^ P.order ≤ P.poly.toNat ∧ 2 ^ P.order ≤ P.init.toNat ∧
      2 ^ P.order ≤ P.xorout.toNat :=
  ⟨⟨⟨8, false, false⟩, 0xFFFFFFFF, 0xFFFFFFFF, 0xFFFFFFFF⟩, .inl rfl, by decide, by decide, by decide⟩

theorem witness_UnmaskedAccumulatorAgrees :
    ∃ (p : Params) (T : Byte → Word) (acc : Word), Admitted p.order ∧ acc.toNat < 2 ^ p.order ∧
      ∀ i, (T i).toNat < 2 ^ p.order :=
  ⟨crc32, fun _ => 0xFFFFFFFF, 0xFFFFFFFF, .inr (.inr (.inr rfl)), by decide, fun _ => (0xFFFFFFFF : Word).isLt⟩

theorem witness_ReflectedStepMirrorsThePlainStep :
    ∃ (p q : Params) (acc : Word), Admitted p.order ∧ p.poly.toNat < 2 ^ p.order ∧ acc.toNat < 2 ^ p.order ∧
      q.ctrl.order = p.ctrl.order ∧ q.poly = p.poly ∧ p.ctrl.refin = true ∧ q.ctrl.refin = false :=
  ⟨crc32, { crc32 with ctrl := ⟨32, false, false⟩ }, 0xFFFFFFFF, .inr (.inr (.inr rfl)), by decide, by decide,
    rfl, rfl, rfl, rfl⟩

theorem witness_EngineProgramComputesParameterizedCrc :
    ∃ (P : Params) (buf : List Byte) (s : State) (rest : List HostEvent), Admitted P.order ∧ s.sess = false ∧
      s.inbox = hostEvents (setCrc P ++ crcBuf buf) ++ rest :=
  ⟨crc32, [0x31], pending State.reset (hostEvents (setCrc crc32 ++ crcBuf [0x31]) ++ [.reset]), [.reset],
    .inr (.inr (.inr rfl)), rfl, rfl⟩

theorem witness_CcittProgramsComputeTheChecksums :
    (∃ (buf : List Byte) (s : State) (rest : List HostEvent), s.inbox = hostEvents (ccittRaw buf) ++ rest) ∧
    (∃ (buf : List Byte) (s : State) (rest : List HostEvent), s.inbox = hostEvents (ccittFinal buf) ++ rest) :=
  ⟨⟨[0x31], pending busy (hostEvents (ccittRaw [0x31]) ++ [.reset]), [.reset], rfl⟩,
    ⟨[], pending busy (hostEvents (ccittFinal []) ++ [.reset]), [.reset], rfl⟩⟩

theorem witness_ReflProgramReturnsTheReflection :
    ∃ (v : DWord) (n : Count) (s : State) (rest : List HostEvent), n.toNat ≤ 64 ∧
      s.inbox = hostEvents (reflCall v n) ++ rest :=
  ⟨1, 64, pending State.reset (hostEvents (reflCall 1 64) ++ []), [], by decide, rfl⟩

/-- The commands that can meet an error, each in a state where it does, and each of them where it runs. -/
theorem witness_CommandsReportOneErrorAndAreOtherwiseClean :
    (commandError .configure busy ≠ .none ∧ commandError .configure State.reset ≠ .none ∧
      commandError .crcBegin State.reset ≠ .none ∧ commandError (.crcByte 0) State.reset ≠ .none ∧
      commandError .ccittEndRaw State.reset ≠ .none ∧ commandError (.reflect 65) State.reset ≠ .none) ∧
    (commandError .crcEnd busy = .none ∧ commandError .ccittEndFinal busy = .none ∧
      commandError (.reflect 64) busy = .none ∧ commandError .clrerr busy = .none) := by
  refine ⟨⟨?_, ?_, ?_, ?_, ?_, ?_⟩, ?_, ?_, ?_, ?_⟩ <;> decide +kernel

theorem witness_RecordedErrorIsSticky :
    ∃ (s t : State) (e : HostEvent) (rest : List HostEvent), s.inbox = e :: rest ∧ step s = .next t ∧
      e.isReset = false ∧ e ≠ .access (.write 0x000 4 0x00000001) ∧ s.err ≠ .none :=
  ⟨pending { busy with err := .busErr } [.access (.write 0x000 4 0)], _, _, [], rfl, rfl, rfl, by decide, by decide⟩

theorem witness_CleanRunRaisedNoError :
    ∃ (k : Nat) (s t : State), CleanRun k s t ∧ k = 1 ∧
      ∀ e ∈ s.inbox.take k, HostEvent.isReset e = false ∧ e ≠ .access (.write 0x000 4 0x00000001) :=
  ⟨1, pending State.reset [.access (.write 0x000 4 0x30)], _, ⟨rfl, rfl, rfl⟩, rfl, by decide⟩

theorem witness_EveryStepAnswersANextState :
    (∃ (s : State) (a : Access) (rest : List HostEvent), s.inbox = .access a :: rest) ∧
    (∃ (s : State) (e : HostEvent) (rest : List HostEvent), s.inbox = e :: rest ∧ e.isReset = true) :=
  ⟨⟨pending busy [.access (.read 0xFFF 8)], .read 0xFFF 8, [], rfl⟩, ⟨pending busy [.reset], .reset, [], rfl, rfl⟩⟩

theorem witness_QuiescentBlockDoesNothing : State.reset.inbox = [] := rfl

/-- Aligned offsets at both sides of every boundary of the map. -/
theorem witness_RegisterMapIsOneToOne :
    targetAt 0x000 = some .cmd ∧ targetAt 0x04C = some (.reg .rflOutHi) ∧ targetAt 0x400 = some (.table 0) ∧
    targetAt 0x7FC = some (.table 255) ∧ targetAt 0x800 = some (.crom 0) ∧ targetAt 0xBFC = some (.crom 255) ∧
    targetAt 0x00C = none ∧ targetAt 0x050 = none ∧ targetAt 0x3FC = none ∧ targetAt 0xC00 = none ∧
    targetAt 0xFFC = none := by decide

theorem witness_LegalReadReturnsTheRegister :
    (∃ (s : State) (r : Reg), s.inbox = .access (.read r.offset 4) :: []) ∧
    (∃ (s : State) (i : Byte), s.tvalid = true ∧ s.inbox = .access (.read (Target.table i).offset 4) :: []) ∧
    (∃ (s : State) (i : Byte), s.inbox = .access (.read (Target.crom i).offset 4) :: []) :=
  ⟨⟨pending busy [.access (.read 0x04C 4)], .rflOutHi, rfl⟩,
    ⟨pending busy [.access (.read 0x7FC 4)], 255, rfl, rfl⟩,
    ⟨pending busy [.access (.read 0xBFC 4)], 255, rfl⟩⟩

/-- One access for each condition of rule R62, read and write. -/
theorem witness_ForbiddenAccessIsBusError :
    (∀ off ∈ ([0x000, 0x001, 0x00C, 0x050, 0x3FC, 0xC00, 0xFFC, 0x400, 0x7FC] : List Offset), ∃ s : State,
      (off.toNat % 4 ≠ 0 ∨ targetAt off = none ∨ off = Target.cmd.offset ∨
        (s.tvalid = false ∧ ∃ i, off = (Target.table i).offset)) ∧ s.inbox = .access (.read off 4) :: []) ∧
    (∀ off ∈ ([0x002, 0x00C, 0xC00, 0x004, 0x04C, 0x400, 0xBFC] : List Offset), ∃ s : State,
      (off.toNat % 4 ≠ 0 ∨ targetAt off = none ∨
        off ∈ ([0x004, 0x008, 0x020, 0x024, 0x028, 0x02C, 0x030, 0x034, 0x038, 0x03C, 0x048, 0x04C] :
          List Offset) ∨ (∃ i, off = (Target.table i).offset) ∨ (∃ i, off = (Target.crom i).offset)) ∧
      s.inbox = .access (.write off 4 0) :: []) ∧
    (∃ s : State, s.inbox = .access (.read 0x030 8) :: []) ∧
    (∃ s : State, s.inbox = .access (.write 0x000 2 1) :: []) := by
  refine ⟨fun off ho => ⟨pending State.reset [.access (.read off 4)], ?_, rfl⟩,
    fun off ho => ⟨pending State.reset [.access (.write off 4 0)], ?_, rfl⟩,
    ⟨pending State.reset [.access (.read 0x030 8)], rfl⟩, ⟨pending State.reset [.access (.write 0x000 2 1)], rfl⟩⟩
  · fin_cases ho
    · exact .inr (.inr (.inl rfl))
    · exact .inl (by decide)
    · exact .inr (.inl rfl)
    · exact .inr (.inl rfl)
    · exact .inr (.inl rfl)
    · exact .inr (.inl rfl)
    · exact .inr (.inl rfl)
    · exact .inr (.inr (.inr ⟨rfl, 0, rfl⟩))
    · exact .inr (.inr (.inr ⟨rfl, 255, rfl⟩))
  · fin_cases ho
    · exact .inl (by decide)
    · exact .inr (.inl rfl)
    · exact .inr (.inl rfl)
    · exact .inr (.inr (.inl (by decide)))
    · exact .inr (.inr (.inl (by decide)))
    · exact .inr (.inr (.inr (.inl ⟨0, rfl⟩)))
    · exact .inr (.inr (.inr (.inr ⟨255, rfl⟩)))

theorem witness_LegalWriteStores :
    ∀ off ∈ ([0x000, 0x010, 0x014, 0x018, 0x01C, 0x040, 0x044] : List Offset), ∃ s : State,
      s.inbox = .access (.write off 4 0xFFFFFFFF) :: [] :=
  fun off _ => ⟨pending busy [.access (.write off 4 0xFFFFFFFF)], rfl⟩

/-- The first and the last address of a window, and the addresses just outside it. -/
theorem witness_WindowHoldsFourKilobytesAtEveryBase :
    (0x10000 % 4096 = 0) ∧ windowOffset 0x10000 0x10000 = some 0 ∧ windowOffset 0x10000 0x10FFF = some 0xFFF ∧
    windowOffset 0x10000 0x11000 = none ∧ windowOffset 0x10000 0x0FFFF = none := by decide

theorem witness_ResetEventGivesTheResetState :
    (∃ s : State, HostEvent.isReset .reset = true ∧ s.inbox = .reset :: []) ∧
    (∃ s : State, HostEvent.isReset (.resetDuring (.write 0x000 4 0x21)) = true ∧
      s.inbox = .resetDuring (.write 0x000 4 0x21) :: []) :=
  ⟨⟨pending busy [.reset], rfl, rfl⟩, ⟨pending busy [.resetDuring (.write 0x000 4 0x21)], rfl, rfl⟩⟩

theorem witness_OnlyConfigureAndResetReplaceTheEngine :
    ∃ (s t : State) (e : HostEvent) (rest : List HostEvent), s.inbox = e :: rest ∧ step s = .next t ∧
      e.isReset = false ∧ s.tvalid = true ∧ e ≠ .access (.write 0x000 4 0x00000010) :=
  ⟨pending busy [.access (.write 0x000 4 0x22)], _, _, [], rfl, rfl, rfl, rfl, by decide⟩

/-- One step for each clause: each session flag set, and each cleared. -/
theorem witness_SessionFlagsChangeOnlyByTheirCommands :
    (∃ (s t : State), s.inbox = .access (.write 0x000 4 0x20) :: [] ∧ step s = .next t ∧ s.sess = false ∧
      t.sess = true) ∧
    (∃ (s t : State), s.inbox = .access (.write 0x000 4 0x22) :: [] ∧ step s = .next t ∧ s.sess = true ∧
      t.sess = false) ∧
    (∃ (s t : State), s.inbox = .access (.write 0x000 4 0x30) :: [] ∧ step s = .next t ∧ s.csess = false ∧
      t.csess = true) ∧
    (∃ (s t : State), s.inbox = .access (.write 0x000 4 0x33) :: [] ∧ step s = .next t ∧ s.csess = true ∧
      t.csess = false) :=
  ⟨⟨pending (engine crc16 0 false) [.access (.write 0x000 4 0x20)], _, rfl, rfl, rfl, rfl⟩,
    ⟨pending busy [.access (.write 0x000 4 0x22)], _, rfl, rfl, rfl, rfl⟩,
    ⟨pending State.reset [.access (.write 0x000 4 0x30)], _, rfl, rfl, rfl, rfl⟩,
    ⟨pending busy [.access (.write 0x000 4 0x33)], _, rfl, rfl, rfl, rfl⟩⟩

/-- A state with both sessions open that meets the invariants, about to mix a byte. -/
theorem witness_StepKeepsTheInvariants :
    ∃ s t : State, s.Inv ∧ s.sess = true ∧ step s = .next t :=
  ⟨pending busy [.access (.write 0x000 4 0x3221)], _,
    ⟨fun _ => rfl, fun _ => crc16_latched,
      fun _ i => entryOf_genTable 16 0x1021 false i, fun _ => show (0x2672 : Word).toNat < 2 ^ crc16.order by decide,
      fun _ => rfl⟩, rfl, rfl⟩

theorem witness_EveryReachableStateMeetsTheInvariants :
    ∃ (events : List HostEvent) (k : Nat) (t : State), runSteps k { State.reset with inbox := events } = .next t ∧
      k = 1 ∧ t.csess = true :=
  ⟨[.access (.write 0x000 4 0x30)], 1, _, rfl, rfl, rfl⟩

theorem witness_CcittCommandsIgnoreTheEngine :
    ∃ (i : Instr) (s t s' t' : State), isCcitt i = true ∧ s.cacc = t.cacc ∧ s.cresult = t.cresult ∧
      s.csess = t.csess ∧ exec i s = .next s' ∧ exec i t = .next t' ∧ s.tvalid ≠ t.tvalid :=
  ⟨.ccittByte 0x32, busy, ccitt 0x2F8D, _, _, rfl, rfl, rfl, rfl, rfl, rfl, by decide +kernel⟩

theorem witness_EngineCommandsIgnoreTheCcittCore :
    ∃ (i : Instr) (s t : State), isEngine i = true ∧ exec i s = .next t :=
  ⟨.crcByte 0x32, busy, _, rfl, rfl⟩

/-- Each alternative: neither errs, only the engine command errs, only the CCITT command errs, and both err with an
error recorded before. -/
theorem witness_EngineAndCcittCommandsCommute :
    (∃ (i j : Instr) (s : State), isEngine i = true ∧ isCcitt j = true ∧ commandError i s = .none ∧
      commandError j s = .none) ∧
    (∃ (i j : Instr) (s : State), isEngine i = true ∧ isCcitt j = true ∧ commandError i s ≠ .none ∧
      commandError j s = .none) ∧
    (∃ (i j : Instr) (s : State), isEngine i = true ∧ isCcitt j = true ∧ commandError i s = .none ∧
      commandError j s ≠ .none) ∧
    (∃ (i j : Instr) (s : State), isEngine i = true ∧ isCcitt j = true ∧ commandError i s ≠ .none ∧
      commandError j s ≠ .none ∧ s.err ≠ .none) :=
  ⟨⟨.crcByte 0x32, .ccittByte 0x32, busy, rfl, rfl, rfl, rfl⟩,
    ⟨.configure, .ccittByte 0x32, busy, rfl, rfl, by decide, rfl⟩,
    ⟨.reflect 64, .ccittEndRaw, State.reset, rfl, rfl, rfl, by decide⟩,
    ⟨.crcBegin, .ccittEndRaw, { State.reset with err := .busErr }, rfl, rfl, by decide, by decide, by decide⟩⟩

end Sys2Proof.Tests
end

section
/-! PROOFS. The scope of the block: which physical addresses are its own, and that it has no background work. -/

namespace Sys2Proof.Machine

/-- The addresses the window holds are the 4096 from its base, whether or not the base is aligned (rule R70). -/
theorem windowOffset_eq_some_iff {base addr : Nat} {off : Offset} :
    windowOffset base addr = some off ↔ (base ≤ addr ∧ addr < base + 0x1000) ∧ off.toNat = addr - base := by
  unfold windowOffset
  split
  next held =>
    have fits : (BitVec.ofNat 12 (addr - base)).toNat = addr - base := by
      rw [BitVec.toNat_ofNat, Nat.mod_eq_of_lt (by omega)]
    rw [Option.some_inj, ← BitVec.toNat_inj, fits, eq_comm]
    simp [held]
  next outside => simp [outside]

theorem windowOffset_eq_none_iff {base addr : Nat} :
    windowOffset base addr = none ↔ ¬(base ≤ addr ∧ addr < base + 0x1000) := by
  simp [windowOffset]

/-- From an aligned base, the 4096 addresses are one page (rule R6). -/
theorem in_window_iff_same_page {base addr : Nat} (aligned : base % 4096 = 0) :
    (base ≤ addr ∧ addr < base + 0x1000) ↔ addr / 4096 = base / 4096 := by
  omega

/-- The distance from an aligned base is the place in its page. -/
theorem sub_base_of_same_page {base addr : Nat} (aligned : base % 4096 = 0) (page : addr / 4096 = base / 4096) :
    addr - base = addr % 4096 := by
  omega

end Sys2Proof.Machine

namespace Sys2Proof.Scope
open Sys2Proof.Machine

/-- Settles O46: the window's range is the page of its aligned base. -/
theorem windowHoldsFourKilobytesAtEveryBase : Obligations.WindowHoldsFourKilobytesAtEveryBase := by
  intro base addr aligned
  constructor
  · intro off
    rw [windowOffset_eq_some_iff, in_window_iff_same_page aligned]
    exact and_congr_right fun page => by rw [sub_base_of_same_page aligned page]
  · rw [windowOffset_eq_none_iff, in_window_iff_same_page aligned]

/-- Settles O39: an idle step answers the same state. -/
theorem quiescentBlockDoesNothing : Obligations.QuiescentBlockDoesNothing :=
  fun _ idle => step_of_idle idle

end Sys2Proof.Scope
end

section
/-! PROOFS. The word of a decoded command: what each format pins of a word (rules R81 to R84). -/

namespace Sys2Proof

/-- A word with zero reserved bits is its count, its byte and its opcode (rule R81). -/
theorem commandWord_of_fields {w : Word} (reserved : rsvOf w = 0) :
    commandWord (countOf w) (imm8Of w) (opcOf w) = w := by
  apply BitVec.eq_of_toNat_eq
  obtain ⟨opc, imm8, count, rsv⟩ := fields_toNat w
  have rsv_zero : (rsvOf w).toNat = 0 := by rw [reserved]; rfl
  rw [commandWord_toNat]
  omega

theorem decodeC0_eq_ok_iff {b : Byte} {n : Count} {i j : Instr} :
    decodeC0 b n i = .ok j ↔ b = 0 ∧ n = 0 ∧ i = j := by
  unfold decodeC0
  split_ifs <;> simp_all

theorem decodeCB_eq_ok_iff {b : Byte} {n : Count} {mk : Byte → Instr} {j : Instr} :
    decodeCB b n mk = .ok j ↔ n = 0 ∧ mk b = j := by
  unfold decodeCB
  split_ifs <;> simp_all

theorem decodeCN_eq_ok_iff {b : Byte} {n : Count} {mk : Count → Instr} {j : Instr} :
    decodeCN b n mk = .ok j ↔ b = 0 ∧ n.toNat ≤ 64 ∧ mk n = j := by
  unfold decodeCN
  split_ifs <;> simp_all

/-- A word that decodes by format C0 has no field but its opcode (rule R83). -/
theorem encode_of_decodeC0 {w : Word} {i j : Instr} (reserved : rsvOf w = 0)
    (ok : decodeC0 (imm8Of w) (countOf w) i = .ok j) (opc : (opcOf w).toNat = (opcode i).toNat)
    (shape : encode i = commandWord 0 0 (opcode i)) : encode j = w := by
  obtain ⟨imm8, count, rfl⟩ := decodeC0_eq_ok_iff.1 ok
  rw [← commandWord_of_fields reserved, imm8, count, BitVec.eq_of_toNat_eq opc, shape]

/-- A word that decodes by format CB has its byte operand and its opcode (rule R83). -/
theorem encode_of_decodeCB {w : Word} {mk : Byte → Instr} {j : Instr} (reserved : rsvOf w = 0)
    (ok : decodeCB (imm8Of w) (countOf w) mk = .ok j) (opc : (opcOf w).toNat = (opcode (mk (imm8Of w))).toNat)
    (shape : encode (mk (imm8Of w)) = commandWord 0 (imm8Of w) (opcode (mk (imm8Of w)))) : encode j = w := by
  obtain ⟨count, rfl⟩ := decodeCB_eq_ok_iff.1 ok
  rw [shape, ← BitVec.eq_of_toNat_eq opc, ← count, commandWord_of_fields reserved]

/-- A word that decodes by format CN has its bit count and its opcode (rule R83). -/
theorem encode_of_decodeCN {w : Word} {mk : Count → Instr} {j : Instr} (reserved : rsvOf w = 0)
    (ok : decodeCN (imm8Of w) (countOf w) mk = .ok j) (opc : (opcOf w).toNat = (opcode (mk (countOf w))).toNat)
    (shape : encode (mk (countOf w)) = commandWord (countOf w) 0 (opcode (mk (countOf w)))) : encode j = w := by
  obtain ⟨imm8, -, rfl⟩ := decodeCN_eq_ok_iff.1 ok
  rw [shape, ← BitVec.eq_of_toNat_eq opc, ← imm8, commandWord_of_fields reserved]

/-- A word that decodes is the word of its command: no bit of it is dropped (rules R80 to R84). -/
theorem encode_of_decode {w : Word} {i : Instr} (decoded : decode w = some i) : encode i = w := by
  have ok : decodeOrReason w = .ok i := by
    unfold decode at decoded
    cases h : decodeOrReason w <;> simp_all [Except.toOption]
  unfold decodeOrReason at ok
  split at ok
  next => cases ok
  next reserved =>
    have reserved := not_not.1 reserved
    split at ok
    next opc => exact encode_of_decodeC0 reserved ok opc rfl
    next opc => exact encode_of_decodeCN reserved ok opc rfl
    next opc => exact encode_of_decodeC0 reserved ok opc rfl
    next opc => exact encode_of_decodeC0 reserved ok opc rfl
    next opc => exact encode_of_decodeCB reserved ok opc rfl
    next opc => exact encode_of_decodeC0 reserved ok opc rfl
    next opc => exact encode_of_decodeC0 reserved ok opc rfl
    next opc => exact encode_of_decodeCB reserved ok opc rfl
    next opc => exact encode_of_decodeC0 reserved ok opc rfl
    next opc => exact encode_of_decodeC0 reserved ok opc rfl
    next => cases ok

end Sys2Proof
end

section
/-! PROOFS. The invariants of rule R38: what each command does to them, and that no other event touches them. -/

namespace Sys2Proof.Machine

/-! The engine's values stay below `2^order` (rules R112, R130, R131). -/

/-- A latched set of an admitted order is as CONFIGURE leaves it (rule R112). -/
theorem latch_latched {p : Params} (admitted : Admitted p.order) : (latch p).Latched := by
  have masked_lt (v : Word) : (v &&& mask p.order).toNat < 2 ^ p.order := by
    rw [toNat_and_mask admitted.bounds.2]
    exact Nat.mod_lt _ (Nat.two_pow_pos _)
  exact ⟨admitted, masked_lt _, masked_lt _, masked_lt _⟩

/-- The seed of a latched set is below `2^order` (rule R130). -/
theorem seed_lt {p : Params} (latched : p.Latched) : (seed p).toNat < 2 ^ p.order := by
  unfold seed
  split
  next => exact reflectWord_lt _ _ latched.order_admitted.bounds.2
  next => exact latched.init_lt

/-- A byte keeps the accumulator below `2^order`, with a table whose entries are (rules R131, R133). -/
theorem crcStep_lt {p : Params} {T : Byte → Word} {acc : Word} (b : Byte) (admitted : Admitted p.order)
    (entry_lt : ∀ i, (T i).toNat < 2 ^ p.order) (acc_lt : acc.toNat < 2 ^ p.order) :
    (crcStep p T acc b).toNat < 2 ^ p.order := by
  unfold crcStep
  split
  next =>
    rw [BitVec.toNat_xor, BitVec.toNat_ushiftRight]
    exact Nat.xor_lt_two_pow (lt_of_le_of_lt (Nat.shiftRight_le _ _) acc_lt) (entry_lt _)
  next =>
    rw [BitVec.toNat_xor, toNat_and_mask admitted.bounds.2]
    exact Nat.xor_lt_two_pow (Nat.mod_lt _ (Nat.two_pow_pos _)) (entry_lt _)

/-! What leaves the engine alone. -/

/-- `t` holds in the engine's registers what `s` holds, and has no error recorded only if `s` has none,
with the same ERRINFO: what the invariants of rule R38 speak of. -/
structure State.KeepsEngine (s t : State) : Prop where
  act : t.act = s.act
  table : t.table = s.table
  tvalid : t.tvalid = s.tvalid
  sess : t.sess = s.sess
  acc : t.acc = s.acc
  no_error : t.err = .none → s.err = .none ∧ t.errinfo = s.errinfo

theorem answered_keepsEngine (s : State) (rest : List HostEvent) (r : Response) :
    s.KeepsEngine (s.answered rest r) :=
  ⟨rfl, rfl, rfl, rfl, rfl, fun h => ⟨h, rfl⟩⟩

theorem raiseError_keepsEngine {s t : State} (keeps : s.KeepsEngine t) {c : ErrCode} (real : c ≠ .none)
    (info : Word) : s.KeepsEngine (raiseError c info t) := by
  refine ⟨?_, ?_, ?_, ?_, ?_, fun none_after => ?_⟩
  · rw [raiseError_act, keeps.act]
  · rw [raiseError_table, keeps.table]
  · rw [raiseError_tvalid, keeps.tvalid]
  · rw [raiseError_sess, keeps.sess]
  · rw [raiseError_acc, keeps.acc]
  · -- an error was recorded, so ERR is not `none` afterwards
    by_cases recorded : t.err = .none
    · rw [raiseError_of_none recorded] at none_after
      exact absurd none_after real
    · rw [raiseError_of_recorded recorded] at none_after
      exact absurd none_after recorded

theorem storeReg_keepsEngine {s t : State} (keeps : s.KeepsEngine t) (r : Reg) (v : Word) :
    s.KeepsEngine (storeReg r v t) := by
  obtain ⟨act, table, tvalid, sess, -, acc, -, -, -, -, -, err, errinfo, -⟩ := storeReg_frame r v t
  exact ⟨act.trans keeps.act, table.trans keeps.table, tvalid.trans keeps.tvalid, sess.trans keeps.sess,
    acc.trans keeps.acc, by rw [err, errinfo]; exact keeps.no_error⟩

/-- What a step on a pending event can do to the registers that commands work on: reset them; leave the engine's
registers and CSESS alone; or have the effect of the one command whose word is written to CMD. -/
theorem step_engine_cases {s t : State} {e : HostEvent} {rest : List HostEvent} (pending : s.inbox = e :: rest)
    (stepped : step s = .next t) :
    (e.isReset = true ∧ t = applyReset { s with inbox := rest }) ∨
    (s.KeepsEngine t ∧ t.csess = s.csess) ∨
    (∃ i, e = .access (.write 0 4 (encode i)) ∧ commandError i (s.answered rest .done) = .none ∧
      t = effect i (s.answered rest .done)) := by
  rcases step_cases pending stepped with reset | ⟨r, rfl⟩ | ⟨c, info, r, real, rfl⟩ | ⟨r, v, rfl⟩ |
    ⟨w, i, rfl, decoded, runs, rfl⟩
  · exact .inl reset
  · exact .inr (.inl ⟨answered_keepsEngine s rest r, rfl⟩)
  · exact .inr (.inl ⟨raiseError_keepsEngine (answered_keepsEngine s rest r) real info, raiseError_csess ..⟩)
  · obtain ⟨-, -, -, -, csess, -⟩ := storeReg_frame r v (s.answered rest .done)
    exact .inr (.inl ⟨storeReg_keepsEngine (answered_keepsEngine s rest .done) r v, csess⟩)
  · exact .inr (.inr ⟨i, by rw [encode_of_decode decoded], runs, rfl⟩)

/-! The invariants. -/

/-- Without a session and a configuration, the invariants say only that ERRINFO is clear. -/
theorem State.Inv.of_unconfigured {s : State} (sess : s.sess = false) (tvalid : s.tvalid = false)
    (errinfo : s.errinfo = 0) : s.Inv where
  sess_tvalid := by simp [sess]
  act_latched := by simp [tvalid]
  table_generated := by simp [tvalid]
  acc_lt := by simp [sess]
  errinfo_zero := fun _ => errinfo

theorem State.Inv.of_keepsEngine {s t : State} (inv : s.Inv) (keeps : s.KeepsEngine t) : t.Inv where
  sess_tvalid := by rw [keeps.sess, keeps.tvalid]; exact inv.sess_tvalid
  act_latched := by rw [keeps.tvalid, keeps.act]; exact inv.act_latched
  table_generated := by rw [keeps.tvalid, keeps.table, keeps.act]; exact inv.table_generated
  acc_lt := by rw [keeps.sess, keeps.acc, keeps.act]; exact inv.acc_lt
  errinfo_zero none_after := by
    obtain ⟨none_before, errinfo⟩ := keeps.no_error none_after
    rw [errinfo, inv.errinfo_zero none_before]

/-- CONFIGURE latches an admitted set and generates its TABLE, and no session is open then (rules R112, R113). -/
theorem configure_inv {s : State} (inv : s.Inv) (closed : s.sess = false) (admitted : Admitted s.cfg.order) :
    (configure s).Inv where
  sess_tvalid _ := rfl
  act_latched _ := latch_latched admitted
  table_generated _ i := entryOf_genTable _ _ _ i
  acc_lt := by simp [closed]
  errinfo_zero := inv.errinfo_zero

/-- CRC_BEGIN opens the session of a configured engine with a seed below `2^order` (rule R130). -/
theorem crcBegin_inv {s : State} (inv : s.Inv) (configured : s.tvalid = true) :
    (effect .crcBegin s).Inv :=
  { inv with
    sess_tvalid := fun _ => configured
    acc_lt := fun _ => seed_lt (inv.act_latched configured) }

/-- CRC_BYTE keeps the accumulator below `2^order`: every entry of the generated TABLE is (rules R115, R132). -/
theorem crcByte_inv {s : State} (inv : s.Inv) (opened : s.sess = true) (b : Byte) :
    (effect (.crcByte b) s).Inv := by
  have configured := inv.sess_tvalid opened
  have admitted := (inv.act_latched configured).order_admitted
  have entry_lt (i : Byte) : (entryOf s.table i).toNat < 2 ^ s.act.order := by
    rw [inv.table_generated configured i]
    exact genEntry_lt _ _ _ _ admitted.bounds.2
  exact { inv with acc_lt := fun _ => crcStep_lt b admitted entry_lt (inv.acc_lt opened) }

/-- CRC_END closes the session, so number 3 asks nothing of ACC (rule R135). -/
theorem crcEnd_inv {s : State} (inv : s.Inv) : (effect .crcEnd s).Inv :=
  { inv with
    sess_tvalid := fun opened => nomatch opened
    acc_lt := fun opened => nomatch opened }

/-- A command that meets no error keeps the invariants. -/
theorem effect_inv {s : State} (inv : s.Inv) {i : Instr} (runs : commandError i s = .none) :
    (effect i s).Inv := by
  cases i with
  | clrerr => exact { inv with errinfo_zero := fun _ => rfl }
  | reflect n => exact { inv with }
  | configure =>
    have closed : s.sess = false := by
      cases h : s.sess <;> simp_all [commandError]
    have admitted : Admitted s.cfg.order := by
      rw [← orderAdmitted_iff]
      by_contra h
      simp [commandError, closed, h] at runs
    exact configure_inv inv closed admitted
  | crcBegin =>
    have configured : s.tvalid = true := by
      by_contra h
      simp [commandError, h] at runs
    exact crcBegin_inv inv configured
  | crcByte b =>
    have opened : s.sess = true := by
      by_contra h
      simp [commandError, h] at runs
    exact crcByte_inv inv opened b
  | crcEnd => exact crcEnd_inv inv
  | ccittBegin => exact { inv with }
  | ccittByte b => exact { inv with }
  | ccittEndRaw => exact { inv with }
  | ccittEndFinal => exact { inv with }

/-- A step keeps the invariants (rule R38). -/
theorem step_inv {s t : State} (inv : s.Inv) (stepped : step s = .next t) : t.Inv := by
  cases pending : s.inbox with
  | nil =>
    rw [step_of_idle pending] at stepped
    injection stepped with same
    exact same ▸ inv
  | cons e rest =>
    rcases step_engine_cases pending stepped with ⟨-, rfl⟩ | ⟨keeps, -⟩ | ⟨i, -, runs, rfl⟩
    · exact .of_unconfigured rfl rfl rfl
    · exact inv.of_keepsEngine keeps
    · exact effect_inv (inv.of_keepsEngine (answered_keepsEngine s rest .done)) runs

end Sys2Proof.Machine

namespace Sys2Proof.BlockState
open Sys2Proof.Machine

/-- Settles O52: a reset clears the engine, a command keeps the invariants, and nothing else touches them. -/
theorem stepKeepsTheInvariants : Obligations.StepKeepsTheInvariants :=
  fun _ _ inv stepped => step_inv inv stepped

/-- Settles O53: no session is open and nothing is configured. -/
theorem resetMeetsTheInvariants : Obligations.ResetMeetsTheInvariants :=
  fun _ => .of_unconfigured rfl rfl rfl

end Sys2Proof.BlockState
end

section
/-! PROOFS. Which events replace the engine and which change the session flags, and what every run from reset keeps
(rules R26, R27, R35, R37, R38). -/

namespace Sys2Proof.Machine

/-- Only CONFIGURE's effect replaces the active parameters, TABLE and TVALID (rules R26, R35). -/
theorem effect_engine_frame {i : Instr} (other : i ≠ .configure) (s : State) :
    (effect i s).act = s.act ∧ (effect i s).table = s.table ∧ (effect i s).tvalid = s.tvalid := by
  cases i with
  | configure => exact absurd rfl other
  | _ => exact ⟨rfl, rfl, rfl⟩

/-- No command clears TVALID (rule R27). -/
theorem effect_tvalid_of_tvalid (i : Instr) {s : State} (configured : s.tvalid = true) :
    (effect i s).tvalid = true := by
  by_cases other : i = .configure
  · subst other; rfl
  · obtain ⟨-, -, tvalid⟩ := effect_engine_frame other s
    rw [tvalid, configured]

/-- SESS after a command that runs (rule R27). -/
theorem effect_sess (i : Instr) (s : State) :
    (effect i s).sess = if i = .crcBegin then true else if i = .crcEnd then false else s.sess := by
  cases i <;> rfl

/-- CSESS after a command that runs (rule R27). -/
theorem effect_csess (i : Instr) (s : State) :
    (effect i s).csess = if i = .ccittBegin then true
      else if i = .ccittEndRaw ∨ i = .ccittEndFinal then false else s.csess := by
  cases i <;> rfl

/-- CACC and CRESULT read zero-extended (rules R31, R32). -/
theorem readReg_cacc_toNat (s : State) : (readReg .cacc s).toNat = s.cacc.toNat :=
  BitVec.toNat_setWidth_of_le (by decide)

theorem readReg_cresult_toNat (s : State) : (readReg .cresult s).toNat = s.cresult.toNat :=
  BitVec.toNat_setWidth_of_le (by decide)

/-- What every step keeps, every run keeps. -/
theorem runSteps_induction {P : State → Prop} (step_keeps : ∀ s t, P s → step s = .next t → P t) :
    ∀ (k : Nat) {s t : State}, P s → runSteps k s = .next t → P t := by
  intro k
  induction k with
  | zero =>
    intro s t hs run
    injection run with same
    exact same ▸ hs
  | succ k ih =>
    intro s t hs run
    cases stepped : step s with
    | next u =>
      rw [runSteps_of_step stepped] at run
      exact ih (step_keeps s u hs stepped) run
    | fault r => nomatch r
    | refused r => simp [runSteps, stepped] at run

end Sys2Proof.Machine

namespace Sys2Proof.BlockState
open Sys2Proof.Machine

/-- Settles O50: of the events but a reset, only the effect of CONFIGURE touches the engine, and it sets TVALID. -/
theorem onlyConfigureAndResetReplaceTheEngine : Obligations.OnlyConfigureAndResetReplaceTheEngine := by
  intro s t e rest pending stepped not_reset
  rcases step_engine_cases pending stepped with ⟨reset, -⟩ | ⟨keeps, -⟩ | ⟨i, rfl, -, rfl⟩
  · simp [not_reset] at reset
  · exact ⟨fun configured => keeps.tvalid.trans configured, fun _ => ⟨keeps.act, keeps.table, keeps.tvalid⟩⟩
  · refine ⟨fun configured => effect_tvalid_of_tvalid i configured, fun not_configure => ?_⟩
    have other : i ≠ .configure := by
      rintro rfl
      exact not_configure rfl
    exact effect_engine_frame other _

/-- Settles O51: a flag that differs after a step was changed by a reset or by the effect of one of its commands. -/
theorem sessionFlagsChangeOnlyByTheirCommands : Obligations.SessionFlagsChangeOnlyByTheirCommands := by
  intro s t e rest pending stepped
  rcases step_engine_cases pending stepped with ⟨reset, rfl⟩ | ⟨keeps, csess⟩ | ⟨i, rfl, -, rfl⟩
  · simp [reset]
  · -- both flags are as before
    simp_all [keeps.sess]
  · rw [effect_sess, effect_csess]
    refine ⟨fun before after => ?_, fun before after => ?_, fun before after => ?_, fun before after => ?_⟩
    · obtain rfl : i = .crcBegin := by split_ifs at after <;> simp_all
      rfl
    · obtain rfl : i = .crcEnd := by split_ifs at after <;> simp_all
      exact .inr rfl
    · obtain rfl : i = .ccittBegin := by split_ifs at after <;> simp_all
      rfl
    · obtain rfl | rfl : i = .ccittEndRaw ∨ i = .ccittEndFinal := by split_ifs at after <;> simp_all
      · exact .inr (.inl rfl)
      · exact .inr (.inr rfl)

/-- Settles O54: the invariants hold at reset and every step keeps them; the widths of CACC, CRESULT and RESULT bound
what is read. -/
theorem everyReachableStateMeetsTheInvariants : Obligations.EveryReachableStateMeetsTheInvariants := by
  intro events k t run
  have inv : t.Inv := runSteps_induction (fun _ _ => step_inv) k (.of_unconfigured rfl rfl rfl) run
  refine ⟨inv, ?_, ?_, t.result.isLt⟩
  · rw [readReg_cacc_toNat]
    exact t.cacc.isLt
  · rw [readReg_cresult_toNat]
    exact t.cresult.isLt

end Sys2Proof.BlockState
end

section
/-! PROOFS. The register map, the words of STATUS and the control registers, and an access to CMD
(rules R22 to R34, R39). -/

namespace Sys2Proof.Machine

/-- The offset of an array entry does not wrap (rule R22). -/
theorem table_offset_toNat (i : Byte) : (Target.table i).offset.toNat = 0x400 + 4 * i.toNat := by
  rw [Target.offset, BitVec.toNat_ofNat]
  omega

theorem crom_offset_toNat (i : Byte) : (Target.crom i).offset.toNat = 0x800 + 4 * i.toNat := by
  rw [Target.offset, BitVec.toNat_ofNat]
  omega

/-- Below 0x400 a register is reached only at its own offset (rule R22). -/
theorem offset_of_regAt {n : Nat} {t : Target} (reached : regAt n = some t) : t.offset.toNat = n := by
  unfold regAt at reached
  split at reached <;> cases reached <;> rfl

/-- The aligned offsets below 0x400 that reach nothing (rule R22). -/
theorem regAt_eq_none_iff {n : Nat} (aligned : n % 4 = 0) (below : n < 0x400) :
    regAt n = none ↔ n = 0x00C ∨ 0x050 ≤ n := by
  unfold regAt
  -- at a register's offset both sides are false; the default branch excludes each of these offsets
  split <;> simp
  simp only [imp_false] at *
  omega

/-- An aligned offset that reaches a target is that target's (rule R22). -/
theorem offset_of_targetAt {off : Offset} {t : Target} (aligned : off &&& 3 = 0) (reached : targetAt off = some t) :
    t.offset = off := by
  rw [offset_and_three] at aligned
  apply BitVec.eq_of_toNat_eq
  unfold targetAt at reached
  split_ifs at reached with register table crom
  · exact offset_of_regAt reached
  · cases reached
    rw [table_offset_toNat, BitVec.toNat_ofNat, Nat.shiftRight_eq_div_pow]
    omega
  · cases reached
    rw [crom_offset_toNat, BitVec.toNat_ofNat, Nat.shiftRight_eq_div_pow]
    omega

/-- The aligned offsets that reach nothing (rule R22). -/
theorem targetAt_eq_none_iff {off : Offset} (aligned : off &&& 3 = 0) :
    targetAt off = none ↔ off = 0x00C ∨ (0x050 ≤ off.toNat ∧ off.toNat ≤ 0x3FC) ∨ 0xC00 ≤ off.toNat := by
  rw [offset_and_three] at aligned
  have hole : off = 0x00C ↔ off.toNat = 0x00C := by rw [← BitVec.toNat_inj]; rfl
  rw [hole]
  unfold targetAt
  split_ifs with register table crom
  · rw [regAt_eq_none_iff aligned register]
    omega
  · simp only [false_iff]
    omega
  · simp only [false_iff]
    omega
  · simp only [true_iff]
    omega

/-- Fields side by side, as a sum. -/
theorem toNat_append_eq_add {m n : Nat} (x : BitVec m) (y : BitVec n) : (x ++ y).toNat = x.toNat * 2 ^ n + y.toNat := by
  rw [BitVec.toNat_append, ← Nat.shiftLeft_add_eq_or_of_lt y.isLt, Nat.shiftLeft_eq]

/-- STATUS as a sum of its fields (rule R27). -/
theorem statusWord_toNat (s : State) :
    (statusWord s).toNat =
      s.err.code.toNat * 2 ^ 8 + s.csess.toNat * 2 ^ 2 + s.sess.toNat * 2 ^ 1 + s.tvalid.toNat := by
  simp only [statusWord, toNat_append_eq_add, BitVec.toNat_ofBool, BitVec.toNat_ofNat]
  omega

/-- A control register as a sum of its fields (rules R24, R26). -/
theorem ctrl_toWord_toNat (c : Ctrl) :
    c.toWord.toNat = c.refout.toNat * 2 ^ 9 + c.refin.toNat * 2 ^ 8 + c.order.toNat := by
  simp only [Ctrl.toWord, toNat_append_eq_add, BitVec.toNat_ofBool, BitVec.toNat_ofNat]
  omega

/-- A word write to CMD takes the access off, notes its completion and runs the word (rules R23, R63). -/
theorem step_of_cmd_write {s : State} {w : Word} {rest : List HostEvent}
    (pending : s.inbox = .access (.write 0x000 4 w) :: rest) :
    step s = runCommand w (s.answered rest .done) := by
  rw [step_of_inbox pending]
  rfl

/-- CMD cannot be read (rules R22, R62). -/
theorem checkBus_read_cmd (size : Nat) (s : State) : checkBus .read 0x000 size s = none := by
  rw [Option.eq_none_iff_forall_ne_some]
  intro t passed
  obtain ⟨-, -, reached, -, readable, -⟩ := checkBus_eq_some.1 passed
  cases reached
  exact readable ⟨rfl, rfl⟩

/-- TABLE cannot be read while TVALID is 0 (rule R62). -/
theorem checkBus_read_table {s : State} (unconfigured : s.tvalid = false) (i : Byte) (size : Nat) :
    checkBus .read (Target.table i).offset size s = none := by
  rw [Option.eq_none_iff_forall_ne_some]
  intro t passed
  obtain ⟨-, -, reached, -, -, readable⟩ := checkBus_eq_some.1 passed
  rw [targetAt_offset] at reached
  cases reached
  exact readable ⟨rfl, ⟨i, rfl⟩, unconfigured⟩

/-- A forbidden read is a bus error (rule R62). -/
theorem step_of_forbidden_read {s : State} {off : Offset} {size : Nat} {rest : List HostEvent}
    (pending : s.inbox = .access (.read off size) :: rest) (forbidden : checkBus .read off size s = none) :
    step s = .next (raiseError .busErr (off.setWidth 32) (s.answered rest .busErr)) := by
  rw [step_of_inbox pending]
  rcases performRead_cases off size s rest with ⟨t, v, passed, -⟩ | fault
  · simp [forbidden] at passed
  · exact fault

end Sys2Proof.Machine

namespace Sys2Proof.BlockState
open Sys2Proof.Machine

/-- Settles O40: each target's offset reaches it, and an aligned offset reaches at most the target it belongs to. -/
theorem registerMapIsOneToOne : Obligations.RegisterMapIsOneToOne := by
  refine ⟨?_, fun t => ⟨targetAt_offset t, offset_aligned t⟩, fun off t => offset_of_targetAt,
    fun i => ⟨table_offset_toNat i, crom_offset_toNat i⟩, fun off => targetAt_eq_none_iff⟩
  simp [Target.offset, Reg.offset]

/-- Settles O43: the words are built from their fields, with zeros between them. -/
theorem statusAndControlWordLayout : Obligations.StatusAndControlWordLayout :=
  ⟨statusWord_toNat, fun s => ctrl_toWord_toNat s.cfg.ctrl, fun s => ctrl_toWord_toNat s.act.ctrl⟩

/-- Settles O5: CMD may be written and not read, and a write of it runs its word. -/
theorem commandWriteRunsTheDecodedCommand : Obligations.CommandWriteRunsTheDecodedCommand := by
  refine ⟨fun s w i rest decoded pending => ?_, fun s w rest illegal pending => ?_, fun s size rest pending => ?_⟩
  · rw [step_of_cmd_write pending, runCommand, decoded]
  · rw [step_of_cmd_write pending, runCommand, illegal]
  · exact step_of_forbidden_read pending (checkBus_read_cmd size s)

/-- Settles O42: the value of each register is its field, at its width. -/
theorem registerReadsShowTheirContents : Obligations.RegisterReadsShowTheirContents := by
  intro s
  refine ⟨rfl, rfl, rfl, rfl, rfl, rfl, rfl, rfl, rfl, ?_, ?_, rfl, rfl, rfl, rfl⟩
  · exact readReg_cacc_toNat s
  · exact readReg_cresult_toNat s

/-- Settles O49: every register's reset value is 0, and TVALID = 0 forbids a read of TABLE. -/
theorem everyRegisterReadsZeroAtReset : Obligations.EveryRegisterReadsZeroAtReset := by
  refine ⟨fun r => ?_, fun i => checkBus_read_table rfl i 4, fun _ => rfl, rfl, rfl, rfl, rfl, rfl, rfl, rfl⟩
  cases r <;> rfl

end Sys2Proof.BlockState
end

section
/-! PROOFS. Accesses to the register window: the legal and the forbidden ones (rules R61 to R63), and the host's
serialization of a checksum (rule R67). -/

namespace Sys2Proof.Machine

/-! The bus check of a target's own offset, and what it refuses. -/

/-- A word read of a target passes, but for CMD, and for TABLE while TVALID is 0 (rule R62). -/
theorem checkBus_read_offset {s : State} {t : Target} (readable : t.rights ≠ .wo)
    (configured : (∃ i, t = .table i) → s.tvalid = true) : checkBus .read t.offset 4 s = some t := by
  refine checkBus_eq_some.2 ⟨rfl, offset_aligned t, targetAt_offset t, ?_, fun h => readable h.2, ?_⟩
  · simp
  · rintro ⟨-, table, unconfigured⟩
    simp [configured table] at unconfigured

/-- A word write of a target that is not read-only passes (rule R62). -/
theorem checkBus_write_offset {s : State} {t : Target} (writable : t.rights ≠ .ro) :
    checkBus .write t.offset 4 s = some t :=
  checkBus_eq_some.2
    ⟨rfl, offset_aligned t, targetAt_offset t, fun h => writable h.2, by simp, by simp⟩

/-- A wrong size, a misaligned offset and an unmapped one are refused, read or write (rule R62, conditions 1 to 3). -/
theorem checkBus_eq_none_of_illegal_place {off : Offset} {size : Nat}
    (illegal : size ≠ 4 ∨ off.toNat % 4 ≠ 0 ∨ targetAt off = none) (k : AccessKind) (s : State) :
    checkBus k off size s = none := by
  rw [Option.eq_none_iff_forall_ne_some]
  intro t passed
  obtain ⟨word, aligned, mapped, -⟩ := checkBus_eq_some.1 passed
  rw [offset_and_three] at aligned
  simp [word, aligned, mapped] at illegal

/-- A write of a read-only target is refused (rule R62, condition 4). -/
theorem checkBus_write_readOnly {t : Target} (readOnly : t.rights = .ro) (size : Nat) (s : State) :
    checkBus .write t.offset size s = none := by
  rw [Option.eq_none_iff_forall_ne_some]
  intro u passed
  obtain ⟨-, -, reached, writable, -⟩ := checkBus_eq_some.1 passed
  rw [targetAt_offset] at reached
  cases reached
  exact writable ⟨rfl, readOnly⟩

/-- The registers with storage that the host can only read (rule R22). -/
def readOnlyRegs : List Reg :=
  [.status, .errinfo, .actCtrl, .actPoly, .actInit, .actXorout, .acc, .result, .cacc, .cresult, .rflOutLo, .rflOutHi]

theorem mem_readOnlyRegs_iff (r : Reg) : r ∈ readOnlyRegs ↔ r.rights = .ro := by
  cases r <;> decide

theorem readOnlyRegs_offsets :
    readOnlyRegs.map Reg.offset =
      [0x004, 0x008, 0x020, 0x024, 0x028, 0x02C, 0x030, 0x034, 0x038, 0x03C, 0x048, 0x04C] := rfl

/-! A step on a pending access, by what the bus check says. -/

/-- A read that passes the check answers the target's value and changes nothing (rule R61). -/
theorem step_of_legal_read {s : State} {off : Offset} {size : Nat} {rest : List HostEvent} {t : Target} {v : Word}
    (pending : s.inbox = .access (.read off size) :: rest) (legal : checkBus .read off size s = some t)
    (value : readTarget t s = some v) : step s = .next (s.answered rest (.data v)) := by
  -- the pending events are no part of what the check and the read look at
  have legal_rest : checkBus .read off size { s with inbox := rest } = some t := legal
  have value_rest : readTarget t { s with inbox := rest } = some v := by rw [← value]; cases t <;> rfl
  rw [step_of_inbox pending, ← reply_of_rest]
  simp [performEvent, performAccess, performRead, legal_rest, value_rest]

/-- A word write of a writable register stores to it (rule R63). -/
theorem step_of_register_write {s : State} {r : Reg} {v : Word} {rest : List HostEvent}
    (pending : s.inbox = .access (.write r.offset 4 v) :: rest) (writable : r.rights = .rw) :
    step s = .next (storeReg r v (s.answered rest .done)) := by
  have not_readOnly : (Target.reg r).rights ≠ .ro := by simp [Target.rights, writable]
  have legal : checkBus .write r.offset 4 { s with inbox := rest } = some (.reg r) :=
    checkBus_write_offset not_readOnly
  have store_then_reply :
      reply .done (storeReg r v { s with inbox := rest }) = storeReg r v (s.answered rest .done) := by
    cases r <;> rfl
  rw [step_of_inbox pending, ← store_then_reply]
  simp [performEvent, performAccess, performWrite, legal]

/-- A forbidden write is a bus error (rule R62). -/
theorem step_of_forbidden_write {s : State} {off : Offset} {size : Nat} {v : Word} {rest : List HostEvent}
    (pending : s.inbox = .access (.write off size v) :: rest) (forbidden : checkBus .write off size s = none) :
    step s = .next (raiseError .busErr (off.setWidth 32) (s.answered rest .busErr)) := by
  rw [step_of_inbox pending]
  rcases performWrite_cases off size v s rest with ⟨i, passed, -⟩ | ⟨passed, -⟩ | ⟨r, passed, -⟩ | fault
  · simp [forbidden] at passed
  · simp [forbidden] at passed
  · simp [forbidden] at passed
  · exact fault

/-! What CFG_CTRL keeps of a written word (rule R24). -/

/-- The bits of 0x33F: ORDER's six, REFIN's and REFOUT's (rule R24). -/
theorem getLsbD_ctrlMask : ∀ k < 32, (0x0000033F : Word).getLsbD k = (decide (k < 6) || k == 8 || k == 9) := by
  decide

theorem toWord_ofWord (v : Word) : (Ctrl.ofWord v).toWord = v &&& 0x0000033F := by
  apply BitVec.eq_of_getLsbD_eq
  intro k hk
  rw [BitVec.getLsbD_and, getLsbD_ctrlMask k hk]
  simp only [Ctrl.toWord, Ctrl.ofWord, BitVec.getLsbD_append, BitVec.getLsbD_ofBool, BitVec.getLsbD_extractLsb',
    BitVec.getLsbD_zero]
  obtain order | reserved | refin | refout | above :
    k < 6 ∨ (k = 6 ∨ k = 7) ∨ k = 8 ∨ k = 9 ∨ 10 ≤ k := by omega
  · simp [order]
  · rcases reserved with rfl | rfl <;> simp
  · subst refin; simp
  · subst refout; simp
  · rw [if_neg (by omega), if_neg (by omega), if_neg (by omega), if_neg (by omega)]
    simp
    omega

end Sys2Proof.Machine

namespace Sys2Proof.Memory
open Sys2Proof.Machine

/-- Settles O41: the read of a register, of a valid TABLE and of CROM passes the bus check at its own offset. -/
theorem legalReadReturnsTheRegister : Obligations.LegalReadReturnsTheRegister := by
  intro s rest
  refine ⟨fun r pending => ?_, fun i configured pending => ?_, fun i pending => ?_⟩
  · have readable : (Target.reg r).rights ≠ .wo := by cases r <;> decide
    exact step_of_legal_read pending (checkBus_read_offset (t := .reg r) readable (by simp)) rfl
  · exact step_of_legal_read pending (checkBus_read_offset (by simp [Target.rights]) fun _ => configured) rfl
  · exact step_of_legal_read pending (checkBus_read_offset (by simp [Target.rights]) (by simp)) rfl

/-- Settles O44: each of the conditions makes the bus check refuse the access. -/
theorem forbiddenAccessIsBusError : Obligations.ForbiddenAccessIsBusError := by
  intro s off size v rest
  constructor
  · intro condition pending
    apply step_of_forbidden_read pending
    rcases condition with size | misaligned | unmapped | rfl | ⟨unconfigured, i, rfl⟩
    · exact checkBus_eq_none_of_illegal_place (.inl size) _ s
    · exact checkBus_eq_none_of_illegal_place (.inr (.inl misaligned)) _ s
    · exact checkBus_eq_none_of_illegal_place (.inr (.inr unmapped)) _ s
    · exact checkBus_read_cmd size s
    · exact checkBus_read_table unconfigured i size
  · intro condition pending
    apply step_of_forbidden_write pending
    rcases condition with size | misaligned | unmapped | readOnly | ⟨i, rfl⟩ | ⟨i, rfl⟩
    · exact checkBus_eq_none_of_illegal_place (.inl size) _ s
    · exact checkBus_eq_none_of_illegal_place (.inr (.inl misaligned)) _ s
    · exact checkBus_eq_none_of_illegal_place (.inr (.inr unmapped)) _ s
    · rw [← readOnlyRegs_offsets, List.mem_map] at readOnly
      obtain ⟨r, listed, rfl⟩ := readOnly
      exact checkBus_write_readOnly (t := .reg r) ((mem_readOnlyRegs_iff r).1 listed) size s
    · exact checkBus_write_readOnly rfl size s
    · exact checkBus_write_readOnly rfl size s

/-- Settles O45: a write of CMD runs its word, and of a writable register stores to it. -/
theorem legalWriteStores : Obligations.LegalWriteStores := by
  refine ⟨fun s v rest pending => ?_, fun s v rest pending => ?_, fun s v rest pending => ?_,
    fun s v rest pending => ?_, fun s v rest pending => ?_, fun s v rest pending => ?_, fun s v rest pending => ?_⟩
  · exact step_of_cmd_write pending
  · exact ⟨Ctrl.ofWord v, toWord_ofWord v, step_of_register_write (r := .cfgCtrl) pending rfl⟩
  · exact step_of_register_write (r := .cfgPoly) pending rfl
  · exact step_of_register_write (r := .cfgInit) pending rfl
  · exact step_of_register_write (r := .cfgXorout) pending rfl
  · exact step_of_register_write (r := .rflInLo) pending rfl
  · exact step_of_register_write (r := .rflInHi) pending rfl

/-- Settles O47: the two bytes are the quotient and the remainder by 256. -/
theorem checksumSerializesBigEndian : Obligations.ChecksumSerializesBigEndian := by
  intro c
  have hi : (c.extractLsb' 8 8).toNat = c.toNat / 256 := by
    rw [BitVec.extractLsb'_toNat, Nat.shiftRight_eq_div_pow]
    omega
  have lo : (c.extractLsb' 0 8).toNat = c.toNat % 256 := BitVec.extractLsb'_toNat ..
  refine ⟨_, _, rfl, hi, lo, ?_⟩
  rw [hi, lo]
  omega

end Sys2Proof.Memory
end

section
/-! PROOFS. Reflecting a value and the byte step: the step with REFIN = 1 mirrors the step with REFIN = 0
(rules R66, R100, R114, R131). -/

namespace Sys2Proof.Machine

/-! The reflection of a 32-bit value over `n` bits, against the word operations of the byte step. -/

theorem reflectWord_xor {n : Nat} (fits : n ≤ 32) (v w : Word) :
    reflectWord (v ^^^ w) n = reflectWord v n ^^^ reflectWord w n := by
  apply BitVec.eq_of_getLsbD_eq
  intro j _
  simp only [BitVec.getLsbD_xor, reflectWord_getLsbD _ _ _ fits, Bool.and_xor_distrib_left]

/-- Below `2^n` a shift to the right is, mirrored, a shift to the left inside the `n` bits. -/
theorem reflectWord_ushiftRight {n : Nat} (fits : n ≤ 32) {v : Word} (v_lt : v.toNat < 2 ^ n) (k : Nat) :
    reflectWord (v >>> k) n = (reflectWord v n <<< k) &&& mask n := by
  apply BitVec.eq_of_getLsbD_eq
  intro j j_lt
  simp only [BitVec.getLsbD_and, BitVec.getLsbD_shiftLeft, BitVec.getLsbD_ushiftRight, getLsbD_mask fits,
    reflectWord_getLsbD _ _ _ fits]
  by_cases inside : j < n
  · by_cases shifted : j < k
    · -- the bit comes from above the field
      have above : v.getLsbD (k + (n - 1 - j)) = false := by
        rw [← BitVec.testBit_toNat]
        exact Nat.testBit_eq_false_of_lt (v_lt.trans_le (Nat.pow_le_pow_right (by decide) (by omega)))
      simp [shifted, above]
    · have same_bit : k + (n - 1 - j) = n - 1 - (j - k) := by omega
      have inside_before : j - k < n := by omega
      simp [inside, shifted, j_lt, same_bit, inside_before]
  · simp [inside]

/-- Reflecting twice is masking, with a mask between the two or not (rule R102). -/
theorem reflectWord_masked_reflectWord {n : Nat} (fits : n ≤ 32) (v : Word) :
    reflectWord (reflectWord v n &&& mask n) n = v &&& mask n := by
  rw [and_mask_of_lt fits _ (reflectWord_lt v n fits)]
  apply BitVec.eq_of_getLsbD_eq
  intro j _
  simp only [BitVec.getLsbD_and, getLsbD_mask fits, reflectWord_getLsbD _ _ _ fits]
  by_cases inside : j < n
  · have back : n - 1 - (n - 1 - j) = j := by omega
    have inside_mirrored : n - 1 - j < n := by omega
    simp [inside, back, inside_mirrored]
  · simp [inside]

/-! The reflection of a byte. -/

/-- A byte with its bits in reverse order (rule R100). -/
def reflectByte (b : Byte) : Byte := (reflectWord (b.setWidth 32) 8).setWidth 8

theorem reflectByte_getLsbD (b : Byte) {j : Nat} (inside : j < 8) :
    (reflectByte b).getLsbD j = b.getLsbD (7 - j) := by
  have inside_mirrored : 7 - j < 32 := by omega
  simp [reflectByte, reflectWord_getLsbD, inside, inside_mirrored]

/-- The word form of a reflected byte is the reflected word form. -/
theorem setWidth_reflectByte (b : Byte) : (reflectByte b).setWidth 32 = reflectWord (b.setWidth 32) 8 := by
  have byte := reflectWord_lt (b.setWidth 32) 8 (by decide)
  apply BitVec.eq_of_toNat_eq
  simp only [reflectByte, BitVec.toNat_setWidth]
  omega

theorem reflectByte_xor (a b : Byte) : reflectByte (a ^^^ b) = reflectByte a ^^^ reflectByte b := by
  apply BitVec.eq_of_getLsbD_eq
  intro j inside
  simp only [BitVec.getLsbD_xor, reflectByte_getLsbD _ inside]

/-- The low byte, mirrored, is the high byte of the mirrored value: the byte step's two indices (rule R131). -/
theorem reflectByte_low_byte {n : Nat} (byte : 8 ≤ n) (fits : n ≤ 32) (v : Word) :
    reflectByte (v.setWidth 8) = (reflectWord v n >>> (n - 8)).setWidth 8 := by
  apply BitVec.eq_of_getLsbD_eq
  intro j inside
  have in_field : n - 8 + j < n := by omega
  have same_bit : n - 1 - (n - 8 + j) = 7 - j := by omega
  have mirrored_inside : 7 - j < 8 := by omega
  rw [reflectByte_getLsbD _ inside]
  simp [BitVec.getLsbD_ushiftRight, reflectWord_getLsbD _ _ _ fits, inside, in_field,
    same_bit, mirrored_inside]

/-! The generator and the step. -/

/-- The entry with reflect-in, mirrored, is the plain entry of the mirrored index (rule R114). -/
theorem reflectWord_genEntry {o : Nat} (fits : o ≤ 32) (i : Byte) (p : Word) :
    reflectWord (genEntry i o p true) o = genEntry (reflectByte i) o p false := by
  have same_seed : genSeed i o true = genSeed (reflectByte i) o false := by
    simp [genSeed, setWidth_reflectByte]
  simp [genEntry, same_seed, reflectWord_masked_reflectWord fits]

theorem crcStep_of_refin {p : Params} (refin : p.ctrl.refin = true) (T : Byte → Word) (acc : Word) (b : Byte) :
    crcStep p T acc b = (acc >>> 8) ^^^ T (acc.setWidth 8 ^^^ b) := by
  simp [crcStep, refin]

theorem crcStep_of_not_refin {p : Params} (plain : p.ctrl.refin = false) (T : Byte → Word) (acc : Word) (b : Byte) :
    crcStep p T acc b =
      ((acc <<< 8) &&& mask p.order) ^^^ T ((acc >>> (p.order - 8)).setWidth 8 ^^^ b) := by
  simp [crcStep, plain]

end Sys2Proof.Machine

namespace Sys2Proof.Memory
open Sys2Proof.Machine

/-- Settles O27: reflecting turns the shift, the index and the table entry of one step into those of the other. -/
theorem reflectedStepMirrorsThePlainStep : Obligations.ReflectedStepMirrorsThePlainStep := by
  intro p q acc b admitted _ acc_lt same_order same_poly refin plain
  obtain ⟨byte, fits⟩ := admitted.bounds
  have order : q.order = p.order := by rw [Params.order, same_order, Params.order]
  have entry (i : Byte) : reflectWord (paramEntry p i) p.order = paramEntry q (reflectByte i) := by
    rw [paramEntry, refin, reflectWord_genEntry fits, paramEntry, plain, order, same_poly]
  calc reflectWord (crcStep p (paramEntry p) acc b) p.order
      = reflectWord (acc >>> 8) p.order ^^^ reflectWord (paramEntry p (acc.setWidth 8 ^^^ b)) p.order := by
        rw [crcStep_of_refin refin, reflectWord_xor fits]
    _ = (reflectWord acc p.order <<< 8 &&& mask p.order) ^^^
          paramEntry q ((reflectWord acc p.order >>> (p.order - 8)).setWidth 8 ^^^ reflectByte b) := by
        rw [reflectWord_ushiftRight fits acc_lt, entry, reflectByte_xor, reflectByte_low_byte byte fits]
    _ = crcStep q (paramEntry q) (reflectWord acc p.order) (reflectByte b) := by
        rw [crcStep_of_not_refin plain, order]

end Sys2Proof.Memory
end

section
/-! PROOFS. The decoder against the encoder, and the illegal words (rules R80 to R85). -/

namespace Sys2Proof

/-! The fields of a built word (rules R81, R83). -/

@[simp] theorem opcOf_commandWord (n : Count) (b o : Byte) : opcOf (commandWord n b o) = o := by
  obtain ⟨opc, -, -, -⟩ := fields_commandWord n b o
  exact opc

@[simp] theorem imm8Of_commandWord (n : Count) (b o : Byte) : imm8Of (commandWord n b o) = b := by
  obtain ⟨-, imm8, -, -⟩ := fields_commandWord n b o
  exact imm8

@[simp] theorem countOf_commandWord (n : Count) (b o : Byte) : countOf (commandWord n b o) = n := by
  obtain ⟨-, -, count, -⟩ := fields_commandWord n b o
  exact count

@[simp] theorem rsvOf_commandWord (n : Count) (b o : Byte) : rsvOf (commandWord n b o) = 0 := by
  obtain ⟨-, -, -, reserved⟩ := fields_commandWord n b o
  exact reserved

/-! Where a format's decoder fails (rule R85). -/

theorem decodeC0_toOption_eq_none_iff {b : Byte} {n : Count} {i : Instr} :
    (decodeC0 b n i).toOption = none ↔ b ≠ 0 ∨ n ≠ 0 := by
  unfold decodeC0
  split_ifs <;> simp_all [Except.toOption]

theorem decodeCB_toOption_eq_none_iff {b : Byte} {n : Count} {mk : Byte → Instr} :
    (decodeCB b n mk).toOption = none ↔ n ≠ 0 := by
  unfold decodeCB
  split_ifs <;> simp_all [Except.toOption]

theorem decodeCN_toOption_eq_none_iff {b : Byte} {n : Count} {mk : Count → Instr} :
    (decodeCN b n mk).toOption = none ↔ b ≠ 0 ∨ 64 < n.toNat := by
  unfold decodeCN
  split_ifs <;> simp_all [Except.toOption]

theorem decodeCN_zero_toOption (n : Count) (mk : Count → Instr) :
    (decodeCN 0 n mk).toOption = if n.toNat ≤ 64 then some (mk n) else none := by
  split_ifs with legal
  · rw [decodeCN_eq_ok_iff.2 ⟨rfl, legal, rfl⟩]
    rfl
  · exact decodeCN_toOption_eq_none_iff.2 (.inr (not_le.1 legal))

/-! Decoding a built word, and the words that decode. -/

/-- The word of a command decodes exactly when the command is well-formed, and then to that command
(rules R80 to R85). -/
theorem decode_encode (i : Instr) : decode (encode i) = if i.wf then some i else none := by
  cases i with
  | reflect n =>
    have format : decode (encode (.reflect n)) = (decodeCN 0 n .reflect).toOption := by
      simp [decode, decodeOrReason, encode, opcode]
    rw [format, decodeCN_zero_toOption]
    simp [Instr.wf]
  | crcByte b => simp [decode, decodeOrReason, encode, opcode, decodeCB, Instr.wf, Except.toOption]
  | ccittByte b => simp [decode, decodeOrReason, encode, opcode, decodeCB, Instr.wf, Except.toOption]
  | _ => rfl

/-- The words that decode are the words of the well-formed commands (rule R80). -/
theorem decode_eq_some_iff {w : Word} {i : Instr} : decode w = some i ↔ encode i = w ∧ i.WellFormed := by
  constructor
  · intro decoded
    obtain rfl := encode_of_decode decoded
    refine ⟨rfl, ?_⟩
    by_contra ill_formed
    simp [decode_encode, ill_formed] at decoded
  · rintro ⟨rfl, wf⟩
    rw [decode_encode, if_pos wf]

/-! What the decoder does with a word, by its reserved bits and the format of its opcode (rules R83 to R85). -/

/-- The opcodes of format C0 (rules R83, R84). -/
def c0Opcodes : List Byte := [0x01, 0x10, 0x20, 0x22, 0x30, 0x32, 0x33]

/-- The opcodes of format CB (rules R83, R84). -/
def cbOpcodes : List Byte := [0x21, 0x31]

/-- Every assigned opcode (rule R84). -/
def assignedOpcodes : List Byte := [0x01, 0x02, 0x10, 0x20, 0x21, 0x22, 0x30, 0x31, 0x32, 0x33]

theorem decode_of_reserved {w : Word} (reserved : rsvOf w ≠ 0) : decode w = none := by
  rw [decode, decodeOrReason, if_pos reserved]
  rfl

theorem decode_of_c0Opcode {w : Word} (clear : rsvOf w = 0) (opc : opcOf w ∈ c0Opcodes) :
    ∃ i, decode w = (decodeC0 (imm8Of w) (countOf w) i).toOption := by
  simp only [c0Opcodes, List.mem_cons, List.not_mem_nil, or_false] at opc
  rcases opc with opc | opc | opc | opc | opc | opc | opc <;>
    exact ⟨_, by simp only [decode, decodeOrReason, clear, opc]; rfl⟩

theorem decode_of_cbOpcode {w : Word} (clear : rsvOf w = 0) (opc : opcOf w ∈ cbOpcodes) :
    ∃ mk, decode w = (decodeCB (imm8Of w) (countOf w) mk).toOption := by
  simp only [cbOpcodes, List.mem_cons, List.not_mem_nil, or_false] at opc
  rcases opc with opc | opc <;>
    exact ⟨_, by simp only [decode, decodeOrReason, clear, opc]; rfl⟩

theorem decode_of_cnOpcode {w : Word} (clear : rsvOf w = 0) (opc : opcOf w = 0x02) :
    decode w = (decodeCN (imm8Of w) (countOf w) .reflect).toOption := by
  simp [decode, decodeOrReason, clear, opc]

theorem decode_of_unassigned {w : Word} (opc : opcOf w ∉ assignedOpcodes) : decode w = none := by
  by_contra decodes
  obtain ⟨i, decoded⟩ := Option.ne_none_iff_exists'.1 decodes
  obtain ⟨rfl, -⟩ := decode_eq_some_iff.1 decoded
  cases i <;> simp [encode, opcode, assignedOpcodes] at opc

/-- A byte is an opcode of exactly one format, or of none and unassigned (rule R84). -/
theorem opcode_formats (o : Byte) :
    (o ∈ c0Opcodes ∧ o ∈ assignedOpcodes ∧ o ∉ cbOpcodes ∧ o ≠ 0x02) ∨
    (o ∈ cbOpcodes ∧ o ∈ assignedOpcodes ∧ o ∉ c0Opcodes ∧ o ≠ 0x02) ∨
    (o = 0x02 ∧ o ∈ assignedOpcodes ∧ o ∉ c0Opcodes ∧ o ∉ cbOpcodes) ∨
    o ∉ assignedOpcodes := by
  by_cases assigned : o ∈ assignedOpcodes
  · revert o
    decide
  · simp [assigned]

/-- The illegal words are those of the five cases (rule R85). -/
theorem decode_eq_none_iff (w : Word) :
    decode w = none ↔
      rsvOf w ≠ 0 ∨ opcOf w ∉ assignedOpcodes ∨
        (opcOf w ∈ c0Opcodes ∧ (imm8Of w ≠ 0 ∨ countOf w ≠ 0)) ∨
        (opcOf w ∈ cbOpcodes ∧ countOf w ≠ 0) ∨
        (opcOf w = 0x02 ∧ (imm8Of w ≠ 0 ∨ 64 < (countOf w).toNat)) := by
  by_cases reserved : rsvOf w ≠ 0
  · exact iff_of_true (decode_of_reserved reserved) (.inl reserved)
  have clear : rsvOf w = 0 := not_not.1 reserved
  rcases opcode_formats (opcOf w) with
    ⟨c0, assigned, not_cb, not_cn⟩ | ⟨cb, assigned, not_c0, not_cn⟩ | ⟨cn, assigned, not_c0, not_cb⟩ | unassigned
  · obtain ⟨i, format⟩ := decode_of_c0Opcode clear c0
    rw [format, decodeC0_toOption_eq_none_iff]
    tauto
  · obtain ⟨mk, format⟩ := decode_of_cbOpcode clear cb
    rw [format, decodeCB_toOption_eq_none_iff]
    tauto
  · rw [decode_of_cnOpcode clear cn, decodeCN_toOption_eq_none_iff]
    tauto
  · exact iff_of_true (decode_of_unassigned unassigned) (.inr (.inl unassigned))

/-- RSV is what stands above bit 22 (rule R81). -/
theorem rsvOf_ne_zero_iff (w : Word) : rsvOf w ≠ 0 ↔ w.toNat / 2 ^ 23 ≠ 0 := by
  obtain ⟨-, -, -, rsv⟩ := fields_toNat w
  rw [ne_eq, ← BitVec.toNat_inj, rsv]
  rfl

/-- The fields are read off the word by division (rule R81). -/
theorem fields_eq_ofNat (w : Word) :
    opcOf w = BitVec.ofNat 8 (w.toNat % 256) ∧ imm8Of w = BitVec.ofNat 8 (w.toNat / 2 ^ 8 % 256) ∧
    countOf w = BitVec.ofNat 7 (w.toNat / 2 ^ 16 % 128) := by
  obtain ⟨opc, imm8, count, -⟩ := fields_toNat w
  refine ⟨?_, ?_, ?_⟩ <;> apply BitVec.eq_of_toNat_eq <;> rw [BitVec.toNat_ofNat] <;> omega

end Sys2Proof

namespace Sys2Proof.Encoding
open Sys2Proof.Machine

/-- Settles O2: decoding undoes encoding. -/
theorem encodedCommandDecodesToItself : Obligations.EncodedCommandDecodesToItself :=
  fun _ wf => decode_eq_some_iff.2 ⟨rfl, wf⟩

/-- Settles O3: a word that decodes is its command's. -/
theorem decodedWordIsTheWordOfItsCommand : Obligations.DecodedWordIsTheWordOfItsCommand :=
  fun _ _ => decode_eq_some_iff.1

/-- Settles O4: the decoder fails in the five cases only, and then the write records the error. -/
theorem illegalWordsRaiseIllegalCmd : Obligations.IllegalWordsRaiseIllegalCmd := by
  refine ⟨fun w => ?_, fields_eq_ofNat, fun s w rest illegal pending => ?_⟩
  · rw [← rsvOf_ne_zero_iff]
    exact decode_eq_none_iff w
  · rw [step_of_cmd_write pending, runCommand, illegal]
    rfl

/-- Settles O1: the ten commands, two of them REFLECT's bounds, read off their words. -/
theorem wordsOfTheOpcodeMapDecode : Obligations.WordsOfTheOpcodeMapDecode :=
  ⟨rfl, rfl, rfl, rfl, rfl, rfl, rfl, rfl, rfl, rfl, rfl⟩

end Sys2Proof.Encoding
end

section
/-! PROOFS. The program that reflects a value (rules R88, R101, R104). -/

namespace Sys2Proof.Machine

/-! A step on the access of a program's line (rule R87). -/

/-- A read of a register answers its value and changes nothing (rule R61). -/
theorem step_of_register_read {s : State} {r : Reg} {rest : List HostEvent}
    (pending : s.inbox = (HostLine.rd (.reg r)).event :: rest) :
    step s = .next (s.answered rest (.data (readReg r s))) := by
  obtain ⟨reads, -, -⟩ := Memory.legalReadReturnsTheRegister s rest
  exact reads r pending

/-- The line of a well-formed command runs that command (rules R23, R80). -/
theorem step_of_command_line {s : State} {i : Instr} {rest : List HostEvent}
    (pending : s.inbox = (HostLine.cmd i).event :: rest) (wf : i.WellFormed) :
    step s = exec i (s.answered rest .done) := by
  rw [step_of_cmd_write pending, runCommand, decode_encode, if_pos wf]

/-- REFLECT with a legal count writes the reflection of RFL_IN to RFL_OUT (rule R101). -/
theorem exec_reflect_of_le {n : Count} (legal : n.toNat ≤ 64) (s : State) :
    exec (.reflect n) s = .next (writeRflOut (reflect (rflIn s) n.toNat) s) := by
  simp [exec_eq, commandError, effect, legal]

/-- The two halves of a value, side by side, are that value (rule R33). -/
theorem append_halves (v : DWord) : v.extractLsb' 32 32 ++ v.extractLsb' 0 32 = v := by
  rw [BitVec.extractLsb'_append_extractLsb'_eq_extractLsb' (by rfl)]
  exact BitVec.extractLsb'_eq_self

/-- The whole final state of `REFL v, n`: `v` in RFL_IN, its reflection in RFL_OUT and answered (rules R88, R104). -/
theorem runSteps_reflCall {v : DWord} {n : Count} {s : State} {rest : List HostEvent} (legal : n.toNat ≤ 64)
    (pending : s.inbox = hostEvents (reflCall v n) ++ rest) :
    runSteps 5 s = .next { s with
      rflInLo := v.extractLsb' 0 32
      rflInHi := v.extractLsb' 32 32
      rflOutLo := (reflect v n.toNat).extractLsb' 0 32
      rflOutHi := (reflect v n.toNat).extractLsb' 32 32
      inbox := rest
      outbox := s.outbox ++ [.done, .done, .done, .data ((reflect v n.toNat).extractLsb' 0 32),
        .data ((reflect v n.toNat).extractLsb' 32 32)] } := by
  have wf : (Instr.reflect n).WellFormed := decide_eq_true legal
  rw [runSteps_of_step (step_of_register_write (r := .rflInLo) pending rfl),
    runSteps_of_step (step_of_register_write (r := .rflInHi) rfl rfl),
    runSteps_of_step ((step_of_command_line rfl wf).trans (exec_reflect_of_le legal _)),
    runSteps_of_step (step_of_register_read (r := .rflOutLo) rfl),
    runSteps_of_step (step_of_register_read (r := .rflOutHi) rfl), runSteps_zero]
  simp [storeReg, readReg, writeRflOut, rflIn, State.answered, append_halves]

end Sys2Proof.Machine

namespace Sys2Proof.Encoding
open Sys2Proof.Machine

/-- Settles O32: the two writes load `v`, REFLECT writes its reflection, and the two reads return it. -/
theorem reflProgramReturnsTheReflection : Obligations.ReflProgramReturnsTheReflection :=
  fun _ _ _ _ legal pending => ⟨_, runSteps_reflCall legal pending, rfl, rfl⟩

end Sys2Proof.Encoding
end

section
/-! PROOFS. The reflect unit: the function and the command (rules R100 to R102). -/

namespace Sys2Proof.Machine

/-! The bits of the two constants that the laws of rule R102 name. -/

/-- The bits of `mask(n)` in 64 bits (rule R9). -/
theorem getLsbD_dwordMask {n : Nat} (fits : n ≤ 64) (k : Nat) :
    (BitVec.ofNat 64 (2 ^ n - 1)).getLsbD k = decide (k < n) := by
  rw [BitVec.getLsbD_ofNat, Nat.testBit_two_pow_sub_one, ← Bool.decide_and]
  exact decide_eq_decide.2 ⟨And.right, fun inside => ⟨by omega, inside⟩⟩

/-- A power of two in 64 bits has one bit, at its exponent. -/
theorem getLsbD_dwordTwoPow {m : Nat} (fits : m < 64) (k : Nat) :
    (BitVec.ofNat 64 (2 ^ m)).getLsbD k = decide (m = k) := by
  rw [BitVec.getLsbD_ofNat, Nat.testBit_two_pow, ← Bool.decide_and]
  exact decide_eq_decide.2 ⟨And.right, fun same => ⟨by omega, same⟩⟩

/-! The function reflect on 64 bits (rules R100, R102). -/

/-- Inside the `n` bits, reflect moves bit `k` to bit `n - 1 - k`. -/
theorem reflect_getLsbD_mirrored {n k : Nat} (fits : n ≤ 64) (inside : k < n) (v : DWord) :
    (reflect v n).getLsbD (n - 1 - k) = v.getLsbD k := by
  have mirrored_inside : n - 1 - k < n := by omega
  have back : n - 1 - (n - 1 - k) = k := by omega
  simp [reflect_getLsbD _ _ _ fits, mirrored_inside, back]

theorem reflect_getLsbD_of_ge {n k : Nat} (fits : n ≤ 64) (outside : n ≤ k) (v : DWord) :
    (reflect v n).getLsbD k = false := by
  simp [reflect_getLsbD _ _ _ fits, not_lt.2 outside]

/-- Only the low `n` bits of the value enter its reflection. -/
theorem reflect_eq_of_low_bits {n : Nat} (fits : n ≤ 64) {v v' : DWord}
    (agree : ∀ k, k < n → v'.getLsbD k = v.getLsbD k) : reflect v' n = reflect v n := by
  apply BitVec.eq_of_getLsbD_eq
  intro j _
  rw [reflect_getLsbD _ _ _ fits, reflect_getLsbD _ _ _ fits]
  by_cases inside : j < n
  · rw [agree (n - 1 - j) (by omega)]
  · simp [inside]

/-- Law 1, the bound. -/
theorem reflect_lt {n : Nat} (fits : n ≤ 64) (v : DWord) : (reflect v n).toNat < 2 ^ n :=
  toNat_lt_of_getLsbD _ fun _ outside => reflect_getLsbD_of_ge fits outside v

/-- Law 1, what reflect depends on. -/
theorem reflect_eq_reflect_masked {n : Nat} (fits : n ≤ 64) (v : DWord) :
    reflect v n = reflect (v &&& BitVec.ofNat 64 (2 ^ n - 1)) n := by
  refine (reflect_eq_of_low_bits fits fun k inside => ?_).symm
  simp [getLsbD_dwordMask fits, inside]

/-- Law 2: reflecting twice is masking. -/
theorem reflect_reflect {n : Nat} (fits : n ≤ 64) (v : DWord) :
    reflect (reflect v n) n = v &&& BitVec.ofNat 64 (2 ^ n - 1) := by
  apply BitVec.eq_of_getLsbD_eq
  intro j _
  rw [reflect_getLsbD _ _ _ fits, BitVec.getLsbD_and, getLsbD_dwordMask fits]
  by_cases inside : j < n
  · simp [inside, reflect_getLsbD_mirrored fits inside]
  · simp [inside]

/-- Law 4: reflect is linear over GF(2). -/
theorem reflect_xor {n : Nat} (fits : n ≤ 64) (v w : DWord) :
    reflect (v ^^^ w) n = reflect v n ^^^ reflect w n := by
  apply BitVec.eq_of_getLsbD_eq
  intro j _
  simp only [BitVec.getLsbD_xor, reflect_getLsbD _ _ _ fits, Bool.and_xor_distrib_left]

/-- Law 5 on the mask. -/
theorem reflect_dwordMask {n : Nat} (fits : n ≤ 64) :
    reflect (BitVec.ofNat 64 (2 ^ n - 1)) n = BitVec.ofNat 64 (2 ^ n - 1) := by
  apply BitVec.eq_of_getLsbD_eq
  intro j _
  rw [reflect_getLsbD _ _ _ fits, getLsbD_dwordMask fits, getLsbD_dwordMask fits, ← Bool.decide_and]
  exact decide_eq_decide.2 ⟨And.left, fun inside => ⟨inside, by omega⟩⟩

/-- Law 5 on zero, from linearity. -/
theorem reflect_zero {n : Nat} (fits : n ≤ 64) : reflect 0 n = 0 := by
  calc reflect 0 n
      = reflect (0 ^^^ 0) n := by rw [BitVec.xor_self]; rfl
    _ = reflect 0 n ^^^ reflect 0 n := reflect_xor fits 0 0
    _ = 0 := BitVec.xor_self

/-- Law 6: bit 0 goes to bit `n - 1`. -/
theorem reflect_one {n : Nat} (fits : n ≤ 64) (nonempty : 1 ≤ n) :
    reflect 1 n = BitVec.ofNat 64 (2 ^ (n - 1)) := by
  apply BitVec.eq_of_getLsbD_eq
  intro j _
  have bit_zero : (1 : DWord).getLsbD (n - 1 - j) = decide (0 = n - 1 - j) :=
    getLsbD_dwordTwoPow (m := 0) (by decide) (n - 1 - j)
  rw [reflect_getLsbD _ _ _ fits, bit_zero, getLsbD_dwordTwoPow (by omega), ← Bool.decide_and]
  exact decide_eq_decide.2 (by omega)

end Sys2Proof.Machine

namespace Sys2Proof.Reflection
open Sys2Proof.Machine

/-- Settles O8: the three clauses are read off the bits of reflect. -/
theorem reflectReversesTheLowBits : Obligations.ReflectReversesTheLowBits :=
  fun v _ fits =>
    ⟨fun _ inside => reflect_getLsbD_mirrored fits inside v,
      fun _ outside => reflect_getLsbD_of_ge fits outside v,
      fun _ agree => reflect_eq_of_low_bits fits agree⟩

/-- Settles O9: the laws in the order of rule R102; law 3, `n = 0`, is the loop that does not run. -/
theorem reflectLaws : Obligations.ReflectLaws :=
  fun a b _ fits =>
    ⟨reflect_lt fits a, reflect_eq_reflect_masked fits a, reflect_reflect fits a, rfl, reflect_xor fits a b,
      reflect_dwordMask fits, reflect_zero fits, reflect_one fits⟩

/-- Settles O7, from the illegal words (rule R85), the fields of a built word and the effect of a legal count. -/
theorem reflectWritesRflOut : Obligations.ReflectWritesRflOut := by
  refine ⟨fun w opc bad => (decode_eq_none_iff w).2 ?_, fun n legal => ⟨?_, exec_reflect_of_le legal⟩⟩
  · rcases bad with count | imm8 | reserved
    · exact .inr (.inr (.inr (.inr ⟨opc, .inr count⟩)))
    · exact .inr (.inr (.inr (.inr ⟨opc, .inl imm8⟩)))
    · exact .inl ((rsvOf_ne_zero_iff w).2 reserved)
  · exact commandWord_toNat n 0 0x02

end Sys2Proof.Reflection
end

section
/-! PROOFS. The table generator: linearity, the reading without masks and what masking leaves (rules R112, R114, R115),
and the command CONFIGURE (rules R111 to R113, R116, R118). -/

namespace Sys2Proof.Machine

/-! Masking a value that is reflected (rules R100, R103). -/

/-- Reflecting reads only the bits below `n`. -/
theorem reflectWord_and_mask {n : Nat} (fits : n ≤ 32) (v : Word) :
    reflectWord (v &&& mask n) n = reflectWord v n := by
  apply BitVec.eq_of_getLsbD_eq
  intro j _
  rw [reflectWord_getLsbD _ _ _ fits, reflectWord_getLsbD _ _ _ fits, BitVec.getLsbD_and, getLsbD_mask fits]
  by_cases inside : j < n
  · have mirrored_inside : n - 1 - j < n := by omega
    simp [mirrored_inside]
  · simp [inside]

/-- Of at most 32 bits, the 32-bit reflection is the 64-bit one. -/
theorem reflectWord_toNat {n : Nat} (fits : n ≤ 32) (v : Word) :
    (reflectWord v n).toNat = (reflect (v.setWidth 64) n).toNat := by
  have small : (reflect (v.setWidth 64) n).toNat < 2 ^ 32 :=
    (reflect_lt (by omega) _).trans_le (Nat.pow_le_pow_right (by decide) fits)
  rw [reflectWord, BitVec.toNat_setWidth, Nat.mod_eq_of_lt small]

/-- A mask, of any bits, is linear over GF(2). -/
theorem xor_and_mask (x y m : Word) : (x ^^^ y) &&& m = (x &&& m) ^^^ (y &&& m) := by
  apply BitVec.eq_of_getLsbD_eq
  intro k _
  simp only [BitVec.getLsbD_and, BitVec.getLsbD_xor, Bool.and_xor_distrib_right]

/-! The laws of a generated entry (rule R115). -/

/-- The seed is linear over GF(2). -/
theorem genSeed_xor (a b : Byte) (o : Nat) (ri : Bool) :
    genSeed (a ^^^ b) o ri = genSeed a o ri ^^^ genSeed b o ri := by
  cases ri <;> simp [genSeed, BitVec.setWidth_xor, reflectWord_xor, BitVec.shiftLeft_xor_distrib]

/-- Law 2: the table is linear over GF(2). -/
theorem genEntry_xor {o : Nat} (fits : o ≤ 32) (a b : Byte) (p : Word) (ri : Bool) :
    genEntry (a ^^^ b) o p ri = genEntry a o p ri ^^^ genEntry b o p ri := by
  unfold genEntry
  rw [genSeed_xor, ← genLoop_xor]
  cases ri <;> simp [reflectWord_xor fits, xor_and_mask]

/-- Law 1, from linearity. -/
theorem genEntry_zero {o : Nat} (fits : o ≤ 32) (p : Word) (ri : Bool) : genEntry 0 o p ri = 0 := by
  calc genEntry 0 o p ri
      = genEntry (0 ^^^ 0) o p ri := by rw [BitVec.xor_self]; rfl
    _ = genEntry 0 o p ri ^^^ genEntry 0 o p ri := genEntry_xor fits 0 0 p ri
    _ = 0 := BitVec.xor_self

/-- A single bit below the top of the field only moves up. -/
theorem genShift_twoPow_of_lt {o j : Nat} (fits : o ≤ 32) (below : j + 1 < o) (p : Word) :
    genShift o p (BitVec.twoPow 32 j) = BitVec.twoPow 32 (j + 1) := by
  have untested : j ≠ o - 1 := by omega
  have shifted : BitVec.twoPow 32 j <<< 1 &&& mask o = BitVec.twoPow 32 (j + 1) := by
    rw [BitVec.shiftLeft_eq_mul_twoPow, BitVec.twoPow_mul_twoPow_eq]
    apply and_mask_of_lt fits
    rw [BitVec.toNat_twoPow_of_lt (by omega)]
    exact Nat.pow_lt_pow_right (by decide) below
  simp [genShift, BitVec.getLsbD_twoPow, untested, shifted]

/-- A single bit at the top of the field is shifted out, which leaves the polynomial. -/
theorem genShift_twoPow_top {o : Nat} (nonempty : 1 ≤ o) (fits : o ≤ 32) (p : Word) :
    genShift o p (BitVec.twoPow 32 (o - 1)) = p := by
  have tested : o - 1 < 32 := by omega
  have shifted_out : BitVec.twoPow 32 (o - 1) <<< 1 &&& mask o = 0 := by
    rw [BitVec.shiftLeft_eq_mul_twoPow, BitVec.twoPow_mul_twoPow_eq, Nat.sub_add_cancel nonempty]
    apply BitVec.eq_of_toNat_eq
    rw [toNat_and_mask fits, BitVec.toNat_twoPow, Nat.mod_mod_of_dvd _ (Nat.pow_dvd_pow 2 fits), Nat.mod_self]
    rfl
  simp [genShift, tested, shifted_out]

/-- A single bit reaches the top only on the last iteration, and is there XORed with the polynomial. -/
theorem genLoop_twoPow {o k : Nat} (inside : k < o) (fits : o ≤ 32) (p : Word) :
    genLoop o p (k + 1) (BitVec.twoPow 32 (o - 1 - k)) = p := by
  induction k with
  | zero => exact genShift_twoPow_top inside fits p
  | succ k ih =>
    have up : o - 1 - (k + 1) + 1 = o - 1 - k := by omega
    rw [genLoop, genShift_twoPow_of_lt fits (by omega), up, ih (by omega)]

/-- Law 4: without reflect-in, entry 1 is the polynomial. -/
theorem genEntry_one {o : Nat} (byte : 8 ≤ o) (fits : o ≤ 32) {p : Word} (p_lt : p.toNat < 2 ^ o) :
    genEntry 1 o p false = p := by
  have top_byte : o - 1 - 7 = o - 8 := by omega
  have seed : genSeed 1 o false = BitVec.twoPow 32 (o - 1 - 7) := by
    rw [top_byte, BitVec.twoPow_eq]; rfl
  calc genEntry 1 o p false
      = genLoop o p (7 + 1) (BitVec.twoPow 32 (o - 1 - 7)) &&& mask o := by rw [← seed]; rfl
    _ = p &&& mask o := by rw [genLoop_twoPow (by omega) fits]
    _ = p := and_mask_of_lt fits p p_lt

/-- The entry with reflect-in is the mirrored plain entry of the mirrored index (rule R114). -/
theorem genEntry_refin {o : Nat} (fits : o ≤ 32) (i : Byte) (p : Word) :
    genEntry i o p true = reflectWord (genEntry (reflectByte i) o p false) o := by
  have entry_lt := genEntry_lt i o p true fits
  rw [← reflectWord_genEntry fits, ← reflectWord_and_mask fits, reflectWord_masked_reflectWord fits,
    and_mask_of_lt fits _ entry_lt]

/-- Law 5, from law 4: the seed of index 128, mirrored, is 1. -/
theorem genEntry_msb {o : Nat} (byte : 8 ≤ o) (fits : o ≤ 32) {p : Word} (p_lt : p.toNat < 2 ^ o) :
    genEntry 128 o p true = reflectWord p o := by
  have mirrored : reflectByte 128 = 1 := by decide
  rw [genEntry_refin fits, mirrored, genEntry_one byte fits p_lt]

/-! The generator without masks: every bit at or above the order is of no effect (rules R112, R114). -/

theorem testBit_eq_of_modEq {a b o k : Nat} (same : a ≡ b [MOD 2 ^ o]) (below : k < o) :
    a.testBit k = b.testBit k := by
  have bits := congrArg (Nat.testBit · k) same
  simpa [Nat.testBit_mod_two_pow, below] using bits

/-- A shift to the left loses only bits above the word. -/
theorem toNat_shiftLeft_modEq {o : Nat} (fits : o ≤ 32) (v : Word) (k : Nat) :
    (v <<< k).toNat ≡ v.toNat <<< k [MOD 2 ^ o] := by
  rw [BitVec.toNat_shiftLeft]
  exact (Nat.mod_modEq _ _).of_dvd (Nat.pow_dvd_pow 2 fits)

theorem xor_modEq {a b c d o : Nat} (left : a ≡ b [MOD 2 ^ o]) (right : c ≡ d [MOD 2 ^ o]) :
    a ^^^ c ≡ b ^^^ d [MOD 2 ^ o] := by
  rw [Nat.ModEq, Nat.xor_mod_two_pow, left, right, Nat.xor_mod_two_pow]

/-- One iteration with the mask and one without agree below the order: the test reads bit `o - 1`, and no bit moves
down. -/
theorem genShift_modEq {o : Nat} (nonempty : 1 ≤ o) (fits : o ≤ 32) {p r : Word} {q n : Nat}
    (same_poly : p.toNat ≡ q [MOD 2 ^ o]) (same : r.toNat ≡ n [MOD 2 ^ o]) :
    (genShift o p r).toNat ≡ wideGenLoop o q 1 n [MOD 2 ^ o] := by
  have tested : r.getLsbD (o - 1) = n.testBit (o - 1) := by
    rw [← BitVec.testBit_toNat, testBit_eq_of_modEq same (by omega)]
  have shifted : (r <<< 1 &&& mask o).toNat ≡ n <<< 1 [MOD 2 ^ o] := by
    calc (r <<< 1 &&& mask o).toNat
        = (r <<< 1).toNat % 2 ^ o := toNat_and_mask fits _
      _ ≡ (r <<< 1).toNat [MOD 2 ^ o] := Nat.mod_modEq _ _
      _ ≡ r.toNat <<< 1 [MOD 2 ^ o] := toNat_shiftLeft_modEq fits r 1
      _ ≡ n <<< 1 [MOD 2 ^ o] := by rw [Nat.shiftLeft_eq, Nat.shiftLeft_eq]; exact same.mul_right _
  rw [genShift, tested, wideGenLoop, wideGenLoop]
  split
  next => rw [BitVec.toNat_xor]; exact xor_modEq shifted same_poly
  next => exact shifted

theorem genLoop_modEq {o : Nat} (nonempty : 1 ≤ o) (fits : o ≤ 32) {p : Word} {q : Nat}
    (same_poly : p.toNat ≡ q [MOD 2 ^ o]) (k : Nat) {r : Word} {n : Nat} (same : r.toNat ≡ n [MOD 2 ^ o]) :
    (genLoop o p k r).toNat ≡ wideGenLoop o q k n [MOD 2 ^ o] := by
  induction k generalizing r n with
  | zero => exact same
  | succ k ih => exact ih (genShift_modEq nonempty fits same_poly same)

/-- Reflecting reads only the bits below the order, in a value of any width. -/
theorem reflectWord_modEq {o : Nat} (fits : o ≤ 32) {r : Word} {n : Nat} (same : r.toNat ≡ n [MOD 2 ^ o]) :
    (reflectWord r o).toNat = (reflect (BitVec.ofNat 64 n) o).toNat := by
  rw [reflectWord_toNat fits]
  refine congrArg _ (reflect_eq_of_low_bits (by omega) fun k below => ?_)
  have in_word : k < 64 := by omega
  rw [BitVec.getLsbD_setWidth, BitVec.getLsbD_ofNat, ← BitVec.testBit_toNat, testBit_eq_of_modEq same below]

theorem genSeed_modEq {o : Nat} (fits : o ≤ 32) (i : Byte) (ri : Bool) :
    (genSeed i o ri).toNat ≡
      (if ri then (reflect (i.setWidth 64) 8).toNat else i.toNat) <<< (o - 8) [MOD 2 ^ o] := by
  have index : (if ri then reflectWord (i.setWidth 32) 8 else i.setWidth 32).toNat =
      if ri then (reflect (i.setWidth 64) 8).toNat else i.toNat := by
    cases ri
    · exact BitVec.toNat_setWidth_of_le (by decide)
    · simp [reflectWord_toNat]
  rw [genSeed, ← index]
  exact toNat_shiftLeft_modEq fits _ _

/-- Polynomials that agree below the order generate the same entry, one with and one without masks. -/
theorem genEntry_toNat {o : Nat} (nonempty : 1 ≤ o) (fits : o ≤ 32) (i : Byte) {p p' : Word} (ri : Bool)
    (same_poly : p.toNat ≡ p'.toNat [MOD 2 ^ o]) : (genEntry i o p ri).toNat = wideGenEntry i o p' ri := by
  have loops := genLoop_modEq nonempty fits same_poly 8 (genSeed_modEq fits i ri)
  rw [genEntry, toNat_and_mask fits, wideGenEntry]
  cases ri
  · exact loops
  · exact congrArg (· % 2 ^ o) (reflectWord_modEq fits loops)

/-- Masking the polynomial changes no entry. -/
theorem genEntry_and_mask {o : Nat} (nonempty : 1 ≤ o) (fits : o ≤ 32) (i : Byte) (p : Word) (ri : Bool) :
    genEntry i o (p &&& mask o) ri = genEntry i o p ri := by
  have same_poly : (p &&& mask o).toNat ≡ p.toNat [MOD 2 ^ o] := by
    rw [toNat_and_mask fits]; exact Nat.mod_modEq _ _
  apply BitVec.eq_of_toNat_eq
  rw [genEntry_toNat nonempty fits i ri same_poly, genEntry_toNat nonempty fits i ri (Nat.ModEq.refl _)]

/-! Masking the parameters (rule R112). -/

theorem paramEntry_latch {P : Params} (admitted : Admitted P.order) (i : Byte) :
    paramEntry (latch P) i = paramEntry P i := by
  obtain ⟨byte, fits⟩ := admitted.bounds
  exact genEntry_and_mask (by omega) fits i P.poly P.ctrl.refin

theorem seed_latch_of_refin {P : Params} (fits : P.order ≤ 32) (refin : P.ctrl.refin = true) :
    seed (latch P) = seed P := by
  unfold seed
  rw [if_pos refin]
  exact (if_pos refin).trans (reflectWord_and_mask fits P.init)

theorem seed_latch_of_not_refin {P : Params} (plain : P.ctrl.refin = false) :
    seed (latch P) = seed P &&& mask P.order := by
  simp [seed, latch, plain]

/-- The plain step shifts the bits at or above the order out. -/
theorem crcStep_and_mask_of_not_refin {P : Params} (byte : 8 ≤ P.order) (fits : P.order ≤ 32)
    (plain : P.ctrl.refin = false) (T : Byte → Word) (acc : Word) (b : Byte) :
    crcStep P T (acc &&& mask P.order) b = crcStep P T acc b := by
  have shifted : (acc &&& mask P.order) <<< 8 &&& mask P.order = acc <<< 8 &&& mask P.order := by
    apply BitVec.eq_of_getLsbD_eq
    intro k _
    simp only [BitVec.getLsbD_and, BitVec.getLsbD_shiftLeft, getLsbD_mask fits]
    by_cases below : k < P.order
    · have below_before : k - 8 < P.order := by omega
      simp [below_before]
    · simp [below]
  have index : ((acc &&& mask P.order) >>> (P.order - 8)).setWidth 8 = (acc >>> (P.order - 8)).setWidth 8 := by
    apply BitVec.eq_of_getLsbD_eq
    intro k in_byte
    have in_field : P.order - 8 + k < P.order := by omega
    simp [BitVec.getLsbD_ushiftRight, getLsbD_mask fits, in_field]
  rw [crcStep_of_not_refin plain, crcStep_of_not_refin plain, shifted, index]

theorem crcFinal_and_mask {P : Params} (fits : P.order ≤ 32) (acc : Word) :
    crcFinal P (acc &&& mask P.order) = crcFinal P acc := by
  unfold crcFinal
  split
  next => rw [reflectWord_and_mask fits]
  next => rw [xor_and_mask, xor_and_mask, BitVec.and_assoc, BitVec.and_self]

theorem crcFinal_latch (P : Params) (acc : Word) : crcFinal (latch P) acc = crcFinal P acc := by
  have masked (v : Word) :
      (v ^^^ (P.xorout &&& mask P.order)) &&& mask P.order = (v ^^^ P.xorout) &&& mask P.order := by
    rw [xor_and_mask, BitVec.and_assoc, BitVec.and_self, ← xor_and_mask]
  exact masked _

/-- The whole-buffer function of a set, which masks it, reads it as it stands. -/
theorem parameterizedCrc_eq_unmasked {P : Params} (admitted : Admitted P.order) (buf : List Byte) :
    parameterizedCrc P buf = crcFinal P (buf.foldl (crcStep P (paramEntry P)) (seed P)) := by
  obtain ⟨byte, fits⟩ := admitted.bounds
  have entries : paramEntry (latch P) = paramEntry P := funext (paramEntry_latch admitted)
  have masked : parameterizedCrc P buf = crcFinal P (buf.foldl (crcStep P (paramEntry P)) (seed (latch P))) := by
    rw [parameterizedCrc, crcFinal_latch, entries]
    rfl
  rw [masked]
  cases refin : P.ctrl.refin
  case true => rw [seed_latch_of_refin fits refin]
  case false =>
    -- the first step drops the bits at or above the order, and without a step the final mask does
    rw [seed_latch_of_not_refin refin]
    cases buf with
    | nil => exact crcFinal_and_mask fits _
    | cons b rest => rw [List.foldl_cons, crcStep_and_mask_of_not_refin byte fits refin, ← List.foldl_cons]

/-! The command CONFIGURE (rules R111, R113, R118). -/

theorem exec_configure_of_sess {s : State} (opened : s.sess = true) :
    exec .configure s = .next (raiseError .cfgBusy (encode .configure) s) := by
  simp [exec_eq, commandError, opened]

theorem exec_configure_of_not_admitted {s : State} (closed : s.sess = false) (refused : ¬ Admitted s.cfg.order) :
    exec .configure s = .next (raiseError .badOrder (encode .configure) s) := by
  simp [exec_eq, commandError, closed, orderAdmitted_iff, refused]

theorem exec_configure_of_admitted {s : State} (closed : s.sess = false) (admitted : Admitted s.cfg.order) :
    exec .configure s = .next (configure s) := by
  simp [exec_eq, commandError, closed, orderAdmitted_iff, admitted, effect]

end Sys2Proof.Machine

namespace Sys2Proof.TableGenerator
open Sys2Proof.Machine

/-- Settles O21: the laws in the order of rule R115. -/
theorem generatedTableLaws : Obligations.GeneratedTableLaws := by
  intro o p ri a b admitted p_lt
  obtain ⟨byte, fits⟩ := admitted.bounds
  exact ⟨genEntry_zero fits p ri, genEntry_xor fits a b p ri, genEntry_lt a o p ri fits,
    genEntry_one byte fits p_lt, genEntry_msb byte fits p_lt⟩

/-- Settles O22: both states generate the entries of the one order, masked polynomial and reflect-in. -/
theorem tableDependsOnOrderPolyRefinOnly : Obligations.TableDependsOnOrderPolyRefinOnly := by
  intro s t s_closed t_closed admitted order poly refin
  have same_order : t.cfg.order = s.cfg.order := by rw [Params.order, ← order, Params.order]
  have same_table : (configure s).table = (configure t).table := by
    simp [Params.order, latch, order, poly, refin]
  refine ⟨_, _, exec_configure_of_admitted s_closed admitted,
    exec_configure_of_admitted t_closed (same_order ▸ admitted), rfl, rfl, fun i => ?_⟩
  rw [same_table]

/-- Settles O23: the two loops keep agreeing below the order. -/
theorem generatorWithoutMasksAgrees : Obligations.GeneratorWithoutMasksAgrees := by
  intro i o p ri admitted _
  obtain ⟨byte, fits⟩ := admitted.bounds
  exact genEntry_toNat (by omega) fits i ri (Nat.ModEq.refl _)

/-- Settles O24: the entries, and the whole-buffer function on them, read only the bits below the order. -/
theorem latchingMasksChangeNoValue : Obligations.LatchingMasksChangeNoValue :=
  fun _ admitted => ⟨paramEntry_latch admitted, parameterizedCrc_eq_unmasked admitted⟩

/-- Settles O10, by the three things that CONFIGURE can do. -/
theorem configureLatchesAndGeneratesOrRefuses : Obligations.ConfigureLatchesAndGeneratesOrRefuses :=
  ⟨rfl, entryOf_genTable, fun _ =>
    ⟨exec_configure_of_sess, exec_configure_of_not_admitted, exec_configure_of_admitted⟩⟩

/-- Settles O25: the 256 printed entries (rule R151) are compared with the generated ones, each by evaluation. -/
theorem generatedCcittTableIsCrom : Obligations.GeneratedCcittTableIsCrom := by
  unfold Obligations.GeneratedCcittTableIsCrom
  decide +kernel

end Sys2Proof.TableGenerator
end

section
/-! PROOFS. The parameterized engine: its three functions as arithmetic (rules R130, R131, R133, R134, R136) and its
three commands (rules R130, R132, R135). -/

namespace Sys2Proof.Machine

/-! The byte step as numbers, and on an accumulator that is never masked (rules R131, R133). -/

/-- A table index is the value's remainder by 256. -/
theorem setWidth_byte_eq_ofNat (v : Word) : v.setWidth 8 = BitVec.ofNat 8 (v.toNat % 256) := by
  apply BitVec.eq_of_toNat_eq
  simp

theorem crcStep_toNat_of_refin {p : Params} (refin : p.ctrl.refin = true) (T : Byte → Word) (acc : Word) (b : Byte) :
    (crcStep p T acc b).toNat =
      (acc.toNat / 2 ^ 8) ^^^ (T (BitVec.ofNat 8 (acc.toNat % 256) ^^^ b)).toNat := by
  rw [crcStep_of_refin refin, BitVec.toNat_xor, BitVec.toNat_ushiftRight, Nat.shiftRight_eq_div_pow,
    setWidth_byte_eq_ofNat]

theorem crcStep_toNat_of_not_refin {p : Params} (fits : p.order ≤ 32) (plain : p.ctrl.refin = false)
    (T : Byte → Word) (acc : Word) (b : Byte) :
    (crcStep p T acc b).toNat =
      (acc.toNat * 2 ^ 8 % 2 ^ p.order) ^^^
        (T (BitVec.ofNat 8 (acc.toNat / 2 ^ (p.order - 8) % 256) ^^^ b)).toNat := by
  have shifted : (acc <<< 8).toNat % 2 ^ p.order = acc.toNat <<< 8 % 2 ^ p.order := toNat_shiftLeft_modEq fits acc 8
  rw [crcStep_of_not_refin plain, BitVec.toNat_xor, toNat_and_mask fits, shifted, Nat.shiftLeft_eq,
    setWidth_byte_eq_ofNat, BitVec.toNat_ushiftRight, Nat.shiftRight_eq_div_pow]

/-- With reflect-in no bit moves up, so there is nothing to mask. -/
theorem wideStep_of_refin {p : Params} (refin : p.ctrl.refin = true) (T : Byte → Word) (acc : Word) (b : Byte) :
    wideStep p T acc.toNat b = (crcStep p T acc b).toNat := by
  have index : BitVec.ofNat 8 acc.toNat = acc.setWidth 8 := rfl
  rw [wideStep, if_pos refin, crcStep_of_refin refin, index, BitVec.toNat_xor, BitVec.toNat_ushiftRight]

/-- Without reflect-in no bit moves down: the index is bits `order - 8` to `order - 1`, and the shift only loses bits
at or above the order. -/
theorem wideStep_modEq {p : Params} (byte : 8 ≤ p.order) (fits : p.order ≤ 32) (plain : p.ctrl.refin = false)
    (T : Byte → Word) {n : Nat} {acc : Word} (same : n ≡ acc.toNat [MOD 2 ^ p.order]) (b : Byte) :
    wideStep p T n b ≡ (crcStep p T acc b).toNat [MOD 2 ^ p.order] := by
  have index : BitVec.ofNat 8 (n >>> (p.order - 8)) = (acc >>> (p.order - 8)).setWidth 8 := by
    apply BitVec.eq_of_getLsbD_eq
    intro k in_byte
    have in_field : p.order - 8 + k < p.order := by omega
    rw [BitVec.getLsbD_ofNat, Nat.testBit_shiftRight, testBit_eq_of_modEq same in_field, BitVec.testBit_toNat,
      BitVec.getLsbD_setWidth, BitVec.getLsbD_ushiftRight]
  have shifted : n <<< 8 ≡ (acc <<< 8 &&& mask p.order).toNat [MOD 2 ^ p.order] := by
    calc n <<< 8
        ≡ acc.toNat <<< 8 [MOD 2 ^ p.order] := by
          rw [Nat.shiftLeft_eq, Nat.shiftLeft_eq]; exact same.mul_right _
      _ ≡ (acc <<< 8).toNat [MOD 2 ^ p.order] := (toNat_shiftLeft_modEq fits acc 8).symm
      _ ≡ (acc <<< 8).toNat % 2 ^ p.order [MOD 2 ^ p.order] := (Nat.mod_modEq _ _).symm
      _ = (acc <<< 8 &&& mask p.order).toNat := (toNat_and_mask fits _).symm
  rw [wideStep, if_neg (by simp [plain]), crcStep_of_not_refin plain, index, BitVec.toNat_xor]
  exact xor_modEq shifted (Nat.ModEq.refl _)

theorem foldl_wideStep_modEq {p : Params} (byte : 8 ≤ p.order) (fits : p.order ≤ 32) (T : Byte → Word) (acc : Word)
    (buf : List Byte) :
    buf.foldl (wideStep p T) acc.toNat ≡ (buf.foldl (crcStep p T) acc).toNat [MOD 2 ^ p.order] := by
  cases refin : p.ctrl.refin
  case true =>
    rw [← List.foldl_hom BitVec.toNat fun acc b => wideStep_of_refin refin T acc b]
  case false =>
    exact List.foldl_rel (r := fun n (acc : Word) => n ≡ acc.toNat [MOD 2 ^ p.order]) (Nat.ModEq.refl _)
      fun b _ _ _ same => wideStep_modEq byte fits refin T same b

/-! The finishing step (rules R134, R136). -/

theorem reflectWord_reflectWord {n : Nat} (fits : n ≤ 32) (v : Word) :
    reflectWord (reflectWord v n) n = v &&& mask n := by
  rw [← reflectWord_and_mask fits (reflectWord v n), reflectWord_masked_reflectWord fits]

theorem crcFinal_getLsbD {p : Params} (fits : p.order ≤ 32) (acc : Word) (k : Nat) :
    (crcFinal p acc).getLsbD k =
      (decide (k < p.order) &&
        ((if p.ctrl.refout ≠ p.ctrl.refin then acc.getLsbD (p.order - 1 - k) else acc.getLsbD k) ^^
          p.xorout.getLsbD k)) := by
  rw [crcFinal, BitVec.getLsbD_and, BitVec.getLsbD_xor, getLsbD_mask fits, Bool.and_comm]
  by_cases inside : k < p.order
  · split
    next => simp [reflectWord_getLsbD _ _ _ fits, inside]
    next => rfl
  · simp [inside]

/-- The finished seed is the initial value reflected exactly with REFOUT: seeding reflects it with REFIN and finishing
where the two flags differ, so with REFIN alone it is reflected twice. -/
theorem crcFinal_seed {p : Params} (fits : p.order ≤ 32) :
    crcFinal p (seed p) =
      ((if p.ctrl.refout then reflectWord p.init p.order else p.init) ^^^ p.xorout) &&& mask p.order := by
  cases refin : p.ctrl.refin <;> cases refout : p.ctrl.refout
  case true.false =>
    simp [crcFinal, seed, refin, refout, reflectWord_reflectWord fits, xor_and_mask, BitVec.and_assoc]
  all_goals simp [crcFinal, seed, refin, refout]

/-! The commands (rules R130, R132, R135). -/

theorem exec_crcBegin_of_not_tvalid {s : State} (unconfigured : s.tvalid = false) :
    exec .crcBegin s = .next (raiseError .notConfigured (encode .crcBegin) s) := by
  simp [exec_eq, commandError, unconfigured]

theorem exec_crcBegin_of_tvalid {s : State} (configured : s.tvalid = true) :
    exec .crcBegin s = .next { s with acc := seed s.act, sess := true } := by
  simp [exec_eq, commandError, effect, configured]

theorem exec_crcByte_of_not_sess {s : State} (closed : s.sess = false) (b : Byte) :
    exec (.crcByte b) s = .next (raiseError .noSession (encode (.crcByte b)) s) := by
  simp [exec_eq, commandError, closed]

theorem exec_crcByte_of_sess {s : State} (opened : s.sess = true) (b : Byte) :
    exec (.crcByte b) s = .next { s with acc := crcStep s.act (entryOf s.table) s.acc b } := by
  simp [exec_eq, commandError, effect, opened]

theorem exec_crcEnd_of_not_sess {s : State} (closed : s.sess = false) :
    exec .crcEnd s = .next (raiseError .noSession (encode .crcEnd) s) := by
  simp [exec_eq, commandError, closed]

theorem exec_crcEnd_of_sess {s : State} (opened : s.sess = true) :
    exec .crcEnd s = .next { s with result := crcFinal s.act s.acc, sess := false } := by
  simp [exec_eq, commandError, effect, opened]

end Sys2Proof.Machine

namespace Sys2Proof.ParamEngine
open Sys2Proof.Machine

/-- Settles O18: the shift and the index of each branch, as products and quotients. -/
theorem crcStepAsArithmetic : Obligations.CrcStepAsArithmetic := by
  intro p T acc b admitted acc_lt entry_lt
  exact ⟨fun plain => crcStep_toNat_of_not_refin admitted.bounds.2 plain T acc b,
    fun refin => crcStep_toNat_of_refin refin T acc b, crcStep_lt b admitted entry_lt acc_lt⟩

/-- Settles O19: the bits of the reflection, of the XOR and of the mask. -/
theorem crcFinalBitByBit : Obligations.CrcFinalBitByBit :=
  fun _ acc k admitted => crcFinal_getLsbD admitted.bounds.2 acc k

/-- Settles O20: CRC_BEGIN seeds, CRC_END finishes the seed, and the empty fold is the seed. -/
theorem emptyBufferResult : Obligations.EmptyBufferResult := by
  refine ⟨fun s configured latched => ?_, fun P admitted => ?_⟩
  · exact ⟨_, _, exec_crcBegin_of_tvalid configured, exec_crcEnd_of_sess rfl, rfl,
      crcFinal_seed latched.order_admitted.bounds.2⟩
  · rw [parameterizedCrc_eq_unmasked admitted]
    exact crcFinal_seed admitted.bounds.2

/-- Settles O26: the two folds stay congruent, and the block's stays below `2^order`. -/
theorem unmaskedAccumulatorAgrees : Obligations.UnmaskedAccumulatorAgrees := by
  intro p T acc buf admitted acc_lt entry_lt
  obtain ⟨byte, fits⟩ := admitted.bounds
  have bounded : (buf.foldl (crcStep p T) acc).toNat < 2 ^ p.order :=
    List.foldlRecOn (motive := fun acc => acc.toNat < 2 ^ p.order) buf (crcStep p T) acc_lt
      fun _ acc_lt b _ => crcStep_lt b admitted entry_lt acc_lt
  rw [foldl_wideStep_modEq byte fits T acc buf, Nat.mod_eq_of_lt bounded]

/-- Settles O11, by TVALID. -/
theorem crcBeginSeedsAndOpens : Obligations.CrcBeginSeedsAndOpens :=
  ⟨rfl, fun _ => ⟨exec_crcBegin_of_not_tvalid, exec_crcBegin_of_tvalid⟩⟩

/-- Settles O12, by SESS. -/
theorem crcByteMixesOneByte : Obligations.CrcByteMixesOneByte :=
  fun b => ⟨commandWord_toNat 0 b 0x21, fun _ =>
    ⟨fun closed => exec_crcByte_of_not_sess closed b, fun opened => exec_crcByte_of_sess opened b⟩⟩

/-- Settles O13, by SESS. -/
theorem crcEndWritesResultAndCloses : Obligations.CrcEndWritesResultAndCloses :=
  ⟨rfl, fun _ => ⟨exec_crcEnd_of_not_sess, exec_crcEnd_of_sess⟩⟩

end Sys2Proof.ParamEngine
end

section
/-! PROOFS. The engine against the other CRC-16 readings: the forward bit loop (rule R139) and the CCITT core
(rule R138). -/

namespace Sys2Proof.Machine

/-- A masked value is below `2^o` (rule R9). -/
theorem and_mask_lt {o : Nat} (fits : o ≤ 32) (v : Word) : (v &&& mask o).toNat < 2 ^ o := by
  rw [toNat_and_mask fits]
  exact Nat.mod_lt _ (Nat.two_pow_pos _)

theorem getLsbD_eq_false_of_lt {v : Word} {o k : Nat} (v_lt : v.toNat < 2 ^ o) (above : o ≤ k) :
    v.getLsbD k = false := by
  rw [← BitVec.testBit_toNat]
  exact Nat.testBit_eq_false_of_lt (v_lt.trans_le (Nat.pow_le_pow_right (by decide) above))

/-! A byte through the table is eight iterations of the generator on the accumulator (rules R114, R131). -/

theorem genShift_lt {o : Nat} (fits : o ≤ 32) {p : Word} (p_lt : p.toNat < 2 ^ o) (r : Word) :
    (genShift o p r).toNat < 2 ^ o := by
  have shifted_lt := and_mask_lt fits (r <<< 1)
  unfold genShift
  split
  next => rw [BitVec.toNat_xor]; exact Nat.xor_lt_two_pow shifted_lt p_lt
  next => exact shifted_lt

theorem genLoop_lt {o : Nat} (fits : o ≤ 32) {p : Word} (p_lt : p.toNat < 2 ^ o) (k : Nat) {r : Word}
    (r_lt : r.toNat < 2 ^ o) : (genLoop o p k r).toNat < 2 ^ o := by
  induction k generalizing r with
  | zero => exact r_lt
  | succ k ih => exact ih (genShift_lt fits p_lt r)

/-- Bits that do not reach the top of the field only move up. -/
theorem genLoop_of_lt {o : Nat} (fits : o ≤ 32) (p : Word) {k : Nat} (inside : k ≤ o) {r : Word}
    (r_lt : r.toNat < 2 ^ (o - k)) : genLoop o p k r = r <<< k := by
  induction k generalizing r with
  | zero => simp [genLoop]
  | succ k ih =>
    have doubled : 2 ^ (o - k) = 2 ^ (o - (k + 1)) * 2 := by rw [← pow_succ]; congr 1; omega
    have field : 2 ^ (o - k) ≤ 2 ^ o := Nat.pow_le_pow_right (by decide) (by omega)
    have word : 2 ^ o ≤ 2 ^ 32 := Nat.pow_le_pow_right (by decide) fits
    have top_clear : r.getLsbD (o - 1) = false := getLsbD_eq_false_of_lt r_lt (by omega)
    have shifted : (r <<< 1).toNat = r.toNat * 2 := by
      rw [BitVec.toNat_shiftLeft, Nat.shiftLeft_eq, Nat.mod_eq_of_lt (by omega), pow_one]
    have unmasked : r <<< 1 &&& mask o = r <<< 1 := and_mask_of_lt fits _ (by omega)
    rw [genLoop, genShift, if_neg (by simp [top_clear]), unmasked, ih (by omega) (by omega),
      ← BitVec.shiftLeft_add, Nat.add_comm]

/-- A value below `2^o` is the seed of its high byte (rule R114) and what stands below that byte. -/
theorem eq_genSeed_xor_low {o : Nat} (byte : 8 ≤ o) (fits : o ≤ 32) {v : Word} (v_lt : v.toNat < 2 ^ o) :
    v = genSeed ((v >>> (o - 8)).setWidth 8) o false ^^^ (v &&& mask (o - 8)) := by
  apply BitVec.eq_of_getLsbD_eq
  intro k k_lt
  simp only [genSeed, Bool.false_eq_true, if_false, BitVec.getLsbD_xor, BitVec.getLsbD_and, BitVec.getLsbD_shiftLeft,
    BitVec.getLsbD_setWidth, BitVec.getLsbD_ushiftRight, getLsbD_mask (show o - 8 ≤ 32 by omega)]
  by_cases low : k < o - 8
  · simp [low]
  · have same_bit : o - 8 + (k - (o - 8)) = k := by omega
    by_cases inside : k < o
    · have in_byte : k - (o - 8) < 8 := by omega
      have in_word : k - (o - 8) < 32 := by omega
      simp [low, k_lt, same_bit, in_byte, in_word]
    · have above : v.getLsbD k = false := getLsbD_eq_false_of_lt v_lt (by omega)
      simp [low, same_bit, above]

theorem genSeed_lt {o : Nat} (byte : 8 ≤ o) (fits : o ≤ 32) (i : Byte) : (genSeed i o false).toNat < 2 ^ o := by
  have field : 2 ^ o = 2 ^ 8 * 2 ^ (o - 8) := by rw [← pow_add]; congr 1; omega
  calc (genSeed i o false).toNat
      = i.toNat * 2 ^ (o - 8) % 2 ^ 32 := by simp [genSeed, Nat.shiftLeft_eq]
    _ ≤ i.toNat * 2 ^ (o - 8) := Nat.mod_le _ _
    _ < 2 ^ o := by rw [field]; exact Nat.mul_lt_mul_of_pos_right i.isLt (Nat.two_pow_pos _)

/-- A plain entry of a masked polynomial is the loop itself: its mask has nothing to do (rule R114). -/
theorem genEntry_eq_genLoop {o : Nat} (byte : 8 ≤ o) (fits : o ≤ 32) {p : Word} (p_lt : p.toNat < 2 ^ o) (i : Byte) :
    genEntry i o p false = genLoop o p 8 (genSeed i o false) :=
  and_mask_of_lt fits _ (genLoop_lt fits p_lt 8 (genSeed_lt byte fits i))

/-- The loop on what stands below the high byte is the shift of the plain step (rule R131). -/
theorem genLoop_low {o : Nat} (byte : 8 ≤ o) (fits : o ≤ 32) (p v : Word) :
    genLoop o p 8 (v &&& mask (o - 8)) = v <<< 8 &&& mask o := by
  have low_fits : o - 8 ≤ 32 := by omega
  rw [genLoop_of_lt fits p byte (and_mask_lt low_fits v)]
  apply BitVec.eq_of_getLsbD_eq
  intro k _
  simp only [BitVec.getLsbD_and, BitVec.getLsbD_shiftLeft, getLsbD_mask fits, getLsbD_mask low_fits]
  by_cases moved : 8 ≤ k
  · have same_bound : k - 8 < o - 8 ↔ k < o := by omega
    simp [same_bound, Bool.and_assoc]
  · simp [not_le.1 moved]

/-- XORing a byte into the high byte XORs it into the index of the seed. -/
theorem xor_high_byte_eq {o : Nat} (byte : 8 ≤ o) (fits : o ≤ 32) {v : Word} (v_lt : v.toNat < 2 ^ o) (b : Byte) :
    v ^^^ (b.setWidth 32 <<< (o - 8)) =
      (v &&& mask (o - 8)) ^^^ genSeed ((v >>> (o - 8)).setWidth 8 ^^^ b) o false := by
  have byte_seed : b.setWidth 32 <<< (o - 8) = genSeed b o false := rfl
  calc v ^^^ (b.setWidth 32 <<< (o - 8))
      = genSeed ((v >>> (o - 8)).setWidth 8) o false ^^^ (v &&& mask (o - 8)) ^^^ genSeed b o false := by
        rw [← eq_genSeed_xor_low byte fits v_lt, byte_seed]
    _ = (v &&& mask (o - 8)) ^^^ genSeed ((v >>> (o - 8)).setWidth 8 ^^^ b) o false := by
        rw [genSeed_xor]; ac_rfl

/-- The plain step on a generated table is the bit loop on the accumulator with the byte XORed into its high byte: the
loop is linear, its high byte is what the table holds, and the rest only moves up. -/
theorem crcStep_eq_genLoop {p : Params} (byte : 8 ≤ p.order) (fits : p.order ≤ 32) (plain : p.ctrl.refin = false)
    (poly_lt : p.poly.toNat < 2 ^ p.order) {acc : Word} (acc_lt : acc.toNat < 2 ^ p.order) (b : Byte) :
    crcStep p (paramEntry p) acc b = genLoop p.order p.poly 8 (acc ^^^ (b.setWidth 32 <<< (p.order - 8))) := by
  rw [xor_high_byte_eq byte fits acc_lt, ← genLoop_xor, genLoop_low byte fits,
    ← genEntry_eq_genLoop byte fits poly_lt, crcStep_of_not_refin plain, paramEntry, plain]

/-! A configuration whose finishing step leaves a masked accumulator as it is (rule R134). -/

theorem crcFinal_eq_self {p : Params} (fits : p.order ≤ 32) (same : p.ctrl.refout = p.ctrl.refin)
    (no_xor : p.xorout = 0) {acc : Word} (acc_lt : acc.toNat < 2 ^ p.order) : crcFinal p acc = acc := by
  simp [crcFinal, same, no_xor, and_mask_of_lt fits acc acc_lt]

/-- A 16-bit value in a word is below `2^16`. -/
theorem toNat_setWidth_half_lt (c : Half) : (c.setWidth 32 : Word).toNat < 2 ^ 16 := by
  rw [BitVec.toNat_setWidth_of_le (by decide)]
  exact c.isLt

/-- Where each byte step on a word is the word form of a step on a 16-bit value, so is every fold. -/
theorem foldl_setWidth_half {f : Half → Byte → Half} {g : Word → Byte → Word}
    (word_form : ∀ c b, g (c.setWidth 32) b = (f c b).setWidth 32) (buf : List Byte) (c : Half) :
    buf.foldl g (c.setWidth 32) = (buf.foldl f c).setWidth 32 :=
  List.foldl_hom (fun c : Half => c.setWidth 32) word_form

/-! The forward CRC-16 (rule R139). -/

/-- The configuration (16, 0x1021, 0xFFFF, 0, 0, 0) of rule R139. -/
def forwardParams : Params :=
  { ctrl := { order := 16, refin := false, refout := false }, poly := 0x1021, init := 0xFFFF, xorout := 0 }

/-- An iteration of the generator at order 16 is a bit iteration of the forward CRC-16. -/
theorem genShift_setWidth_half (c : Half) :
    genShift 16 0x1021 (c.setWidth 32) = (forwardBits 1 c).setWidth 32 := by
  have shifted : (c.setWidth 32 : Word) <<< 1 &&& mask 16 = (c <<< 1).setWidth 32 := by
    apply BitVec.eq_of_getLsbD_eq
    intro k k_lt
    simp only [BitVec.getLsbD_and, BitVec.getLsbD_shiftLeft, BitVec.getLsbD_setWidth,
      getLsbD_mask (show 16 ≤ 32 by decide)]
    by_cases inside : k < 16
    · have in_word : k - 1 < 32 := by omega
      simp [inside, in_word, k_lt]
    · simp [inside]
  have tested : (c.setWidth 32 : Word).getLsbD (16 - 1) = c.getLsbD 15 := by simp
  rw [genShift, tested, shifted, forwardBits, forwardBits]
  split
  next => rw [BitVec.setWidth_xor]; rfl
  next => rfl

theorem genLoop_setWidth_half (k : Nat) (c : Half) :
    genLoop 16 0x1021 k (c.setWidth 32) = (forwardBits k c).setWidth 32 := by
  induction k generalizing c with
  | zero => rfl
  | succ k ih => rw [genLoop, genShift_setWidth_half, ih]; rfl

theorem crcStep_forwardParams (c : Half) (b : Byte) :
    crcStep forwardParams (paramEntry forwardParams) (c.setWidth 32) b =
      (forwardBits 8 (c ^^^ ((b.setWidth 16 : Half) <<< 8))).setWidth 32 := by
  have high_byte : (b.setWidth 32 : Word) <<< (16 - 8) = ((b.setWidth 16 : Half) <<< 8).setWidth 32 := by
    apply BitVec.eq_of_toNat_eq
    simp only [BitVec.toNat_shiftLeft, BitVec.toNat_setWidth, Nat.shiftLeft_eq]
    omega
  calc crcStep forwardParams (paramEntry forwardParams) (c.setWidth 32) b
      = genLoop 16 0x1021 8 (c.setWidth 32 ^^^ (b.setWidth 32 <<< (16 - 8))) :=
        crcStep_eq_genLoop (p := forwardParams) (by decide) (by decide) rfl (by decide) (toNat_setWidth_half_lt c) b
    _ = (forwardBits 8 (c ^^^ ((b.setWidth 16 : Half) <<< 8))).setWidth 32 := by
        rw [high_byte, ← BitVec.setWidth_xor, genLoop_setWidth_half]

/-! The CCITT core (rule R138). -/

/-- The configuration (16, 0x1021, 0xFFFF, 0, 1, 1) of rule R138. -/
def ccittParams : Params :=
  { ctrl := { order := 16, refin := true, refout := true }, poly := 0x1021, init := 0xFFFF, xorout := 0 }

/-- The CCITT core's step is the engine's with reflect-in, on the table that is CROM (rules R117, R153). -/
theorem crcStep_ccittParams (c : Half) (b : Byte) :
    crcStep ccittParams (paramEntry ccittParams) (c.setWidth 32) b = (ccittStep c b).setWidth 32 := by
  have index : (c.setWidth 32 : Word).setWidth 8 ^^^ b = (c ^^^ b.setWidth 16).setWidth 8 := by
    simp [BitVec.setWidth_xor]
  have shifted : (c.setWidth 32 : Word) >>> 8 = (c >>> 8).setWidth 32 := by
    apply BitVec.eq_of_toNat_eq
    simp
  have entry (i : Byte) : paramEntry ccittParams i = (crom i).setWidth 32 := TableGenerator.generatedCcittTableIsCrom i
  rw [crcStep_of_refin rfl, index, entry, shifted, ccittStep, ← BitVec.setWidth_xor]

end Sys2Proof.Machine

namespace Sys2Proof.ParamEngine
open Sys2Proof.Machine

/-- Settles O28: the seed and each byte step are the loop's, and finishing changes nothing. -/
theorem forwardCrc16LoopAgrees : Obligations.ForwardCrc16LoopAgrees := by
  intro buf
  have folds : buf.foldl (crcStep forwardParams (paramEntry forwardParams)) (seed forwardParams) =
      (forwardCrc16 buf).setWidth 32 := foldl_setWidth_half crcStep_forwardParams buf 0xFFFF
  calc parameterizedCrc forwardParams buf
      = crcFinal forwardParams ((forwardCrc16 buf).setWidth 32) := by
        rw [parameterizedCrc_eq_unmasked (.inr (.inl rfl)), folds]
    _ = (forwardCrc16 buf).setWidth 32 := crcFinal_eq_self (by decide) rfl rfl (toNat_setWidth_half_lt _)

/-- Settles O29: the reflected seed and each byte step are the core's, and finishing changes nothing. -/
theorem engineAgreesWithCcittCore : Obligations.EngineAgreesWithCcittCore := by
  intro buf
  have seeded : seed ccittParams = (0xFFFF : Half).setWidth 32 := by decide
  have folds : buf.foldl (crcStep ccittParams (paramEntry ccittParams)) (seed ccittParams) =
      (computeCrc16Raw buf).setWidth 32 := by
    rw [seeded]
    exact foldl_setWidth_half crcStep_ccittParams buf 0xFFFF
  calc parameterizedCrc ccittParams buf
      = crcFinal ccittParams ((computeCrc16Raw buf).setWidth 32) := by
        rw [parameterizedCrc_eq_unmasked (.inr (.inl rfl)), folds]
    _ = (computeCrc16Raw buf).setWidth 32 := crcFinal_eq_self (by decide) rfl rfl (toNat_setWidth_half_lt _)

end Sys2Proof.ParamEngine
end

section
/-! PROOFS. The program that configures the engine and computes a buffer's checksum (rules R88, R137). -/

namespace Sys2Proof.Machine

/-! Runs in parts. -/

/-- A run whose first part ends in `t` goes on from `t`. -/
theorem runSteps_add {j k : Nat} {s t : State} (first : runSteps j s = .next t) :
    runSteps (j + k) s = runSteps k t := by
  induction j generalizing s with
  | zero =>
    injection first with same
    rw [Nat.zero_add, same]
  | succ j ih =>
    cases stepped : step s with
    | next u =>
      rw [runSteps_of_step stepped] at first
      rw [Nat.succ_add, runSteps_of_step stepped, ih first]
    | fault r => nomatch r
    | refused r => simp [runSteps, stepped] at first

theorem hostEvents_cons (l : HostLine) (prog : List HostLine) :
    hostEvents (l :: prog) = l.event :: hostEvents prog := rfl

theorem hostEvents_append (prog prog' : List HostLine) :
    hostEvents (prog ++ prog') = hostEvents prog ++ hostEvents prog' := List.map_append

/-! A step on the line of an engine command that meets no error (rules R113, R130, R132, R135). -/

theorem step_of_configure_line {s : State} {rest : List HostEvent}
    (pending : s.inbox = (HostLine.cmd .configure).event :: rest) (closed : s.sess = false)
    (admitted : Admitted s.cfg.order) : step s = .next (configure (s.answered rest .done)) :=
  (step_of_command_line pending rfl).trans (exec_configure_of_admitted (s := s.answered rest .done) closed admitted)

theorem step_of_crcBegin_line {s : State} {rest : List HostEvent}
    (pending : s.inbox = (HostLine.cmd .crcBegin).event :: rest) (configured : s.tvalid = true) :
    step s = .next { s.answered rest .done with acc := seed s.act, sess := true } :=
  (step_of_command_line pending rfl).trans (exec_crcBegin_of_tvalid (s := s.answered rest .done) configured)

theorem step_of_crcByte_line {s : State} {b : Byte} {rest : List HostEvent}
    (pending : s.inbox = (HostLine.cmd (.crcByte b)).event :: rest) (opened : s.sess = true) :
    step s = .next { s.answered rest .done with acc := crcStep s.act (entryOf s.table) s.acc b } :=
  (step_of_command_line pending rfl).trans (exec_crcByte_of_sess (s := s.answered rest .done) opened b)

theorem step_of_crcEnd_line {s : State} {rest : List HostEvent}
    (pending : s.inbox = (HostLine.cmd .crcEnd).event :: rest) (opened : s.sess = true) :
    step s = .next { s.answered rest .done with result := crcFinal s.act s.acc, sess := false } :=
  (step_of_command_line pending rfl).trans (exec_crcEnd_of_sess (s := s.answered rest .done) opened)

/-! `SETCRC P` (rule R88). -/

/-- A control register holds what its word was written from (rule R24). -/
theorem ofWord_toWord (c : Ctrl) : Ctrl.ofWord c.toWord = c := by
  have order : c.toWord.extractLsb' 0 6 = c.order := by
    apply BitVec.eq_of_toNat_eq
    rw [BitVec.extractLsb'_toNat, ctrl_toWord_toNat, Nat.shiftRight_zero]
    omega
  have refin : c.toWord.getLsbD 8 = c.refin := by
    simp only [Ctrl.toWord, BitVec.getLsbD_append, BitVec.getLsbD_ofBool]
    rfl
  have refout : c.toWord.getLsbD 9 = c.refout := by
    simp only [Ctrl.toWord, BitVec.getLsbD_append, BitVec.getLsbD_ofBool]
    rfl
  rw [Ctrl.ofWord, order, refin, refout]

/-- `LOADCFG P` stages `P` (rule R63). -/
theorem runSteps_loadCfg {P : Params} {s : State} {rest : List HostEvent}
    (pending : s.inbox = hostEvents (loadCfg P) ++ rest) :
    runSteps 4 s = .next { s with
      cfg := P, inbox := rest, outbox := s.outbox ++ List.replicate 4 .done } := by
  rw [runSteps_of_step (step_of_register_write (r := .cfgCtrl) pending rfl),
    runSteps_of_step (step_of_register_write (r := .cfgPoly) rfl rfl),
    runSteps_of_step (step_of_register_write (r := .cfgInit) rfl rfl),
    runSteps_of_step (step_of_register_write (r := .cfgXorout) rfl rfl), runSteps_zero]
  simp [storeReg, ofWord_toWord, State.answered, List.replicate]

/-- The whole state after `SETCRC P`: `P` staged and, masked, active with its generated TABLE (rule R113). -/
theorem runSteps_setCrc {P : Params} {s : State} {rest : List HostEvent} (admitted : Admitted P.order)
    (closed : s.sess = false) (pending : s.inbox = hostEvents (setCrc P) ++ rest) :
    runSteps 5 s = .next (configure { s with
      cfg := P, inbox := rest, outbox := s.outbox ++ List.replicate 5 .done }) := by
  rw [setCrc, hostEvents_append, List.append_assoc] at pending
  rw [runSteps_add (k := 1) (runSteps_loadCfg pending), runSteps_of_step (step_of_configure_line rfl ?_ ?_),
    runSteps_zero]
  · simp [State.answered, List.replicate]
  · exact closed
  · exact admitted

/-! `CRC_BUF buf` (rule R88). -/

/-- In a session, `CRC_BYTES buf` mixes the buffer into ACC, each byte answered (rule R132). -/
theorem runSteps_crcBytes {buf : List Byte} {s : State} {rest : List HostEvent} (opened : s.sess = true)
    (pending : s.inbox = hostEvents (crcBytes buf) ++ rest) :
    runSteps buf.length s = .next { s with
      acc := buf.foldl (crcStep s.act (entryOf s.table)) s.acc
      inbox := rest
      outbox := s.outbox ++ List.replicate buf.length .done } := by
  induction buf generalizing s with
  | nil =>
    have no_access : s.inbox = rest := pending
    simp [← no_access]
  | cons b buf ih =>
    rw [List.length_cons, runSteps_of_step (step_of_crcByte_line pending opened), ih ?_ rfl]
    · simp [State.answered, List.replicate_succ]
    · exact opened

/-- The whole state after `CRC_BUF buf` on a configured engine: the checksum in RESULT and answered, and no session. -/
theorem runSteps_crcBuf {buf : List Byte} {s : State} {rest : List HostEvent} (configured : s.tvalid = true)
    (pending : s.inbox = hostEvents (crcBuf buf) ++ rest) :
    runSteps (buf.length + 3) s = .next { s with
      acc := buf.foldl (crcStep s.act (entryOf s.table)) (seed s.act)
      result := crcFinal s.act (buf.foldl (crcStep s.act (entryOf s.table)) (seed s.act))
      sess := false
      inbox := rest
      outbox := s.outbox ++ List.replicate (buf.length + 2) .done ++
        [.data (crcFinal s.act (buf.foldl (crcStep s.act (entryOf s.table)) (seed s.act)))] } := by
  rw [crcBuf, hostEvents_cons, hostEvents_append, List.cons_append, List.append_assoc] at pending
  have responses : List.replicate (buf.length + 2) Response.done =
      .done :: (List.replicate buf.length .done ++ [.done]) := by
    rw [List.replicate_succ, List.replicate_succ']
  rw [runSteps_of_step (step_of_crcBegin_line pending configured), runSteps_add (runSteps_crcBytes rfl rfl),
    runSteps_of_step (step_of_crcEnd_line rfl rfl), runSteps_of_step (step_of_register_read rfl), runSteps_zero]
  simp [State.answered, readReg, responses]

end Sys2Proof.Machine

namespace Sys2Proof.ParamEngine
open Sys2Proof.Machine

/-- Settles O30: SETCRC makes `latch P` active with its generated TABLE, and CRC_BUF on it is the whole-buffer
function. -/
theorem engineProgramComputesParameterizedCrc : Obligations.EngineProgramComputesParameterizedCrc := by
  intro P buf s rest admitted closed pending
  rw [hostEvents_append, List.append_assoc] at pending
  have run := (runSteps_add (runSteps_setCrc admitted closed pending)).trans (runSteps_crcBuf rfl rfl)
  have steps : buf.length + 8 = 5 + (buf.length + 3) := by omega
  have entries : entryOf (genTable (latch P).order (latch P).poly (latch P).ctrl.refin) = paramEntry (latch P) :=
    funext (entryOf_genTable _ _ _)
  have responses : List.replicate (buf.length + 7) Response.done =
      List.replicate 5 .done ++ List.replicate (buf.length + 2) .done := by
    rw [List.replicate_append_replicate]
    congr 1
    omega
  rw [steps]
  refine ⟨_, run, ?_, ?_, rfl, rfl, rfl, rfl, rfl, rfl, rfl⟩
  · simp [entries, parameterizedCrc]
  · simp [entries, parameterizedCrc, responses]

end Sys2Proof.ParamEngine
end

section
/-! PROOFS. The CCITT core: its commands, the programs that compute a buffer's checksums, and its independence of the
engine (rules R152 to R158). -/

namespace Sys2Proof.Machine

/-! The two ways a command can go (rule R182). -/

theorem exec_of_runs {i : Instr} {s : State} (runs : commandError i s = .none) : exec i s = .next (effect i s) := by
  rw [exec_eq, if_pos runs]

theorem exec_of_error {i : Instr} {s : State} (error : commandError i s ≠ .none) :
    exec i s = .next (raiseError (commandError i s) (encode i) s) := by
  rw [exec_eq, if_neg error]

/-! The commands of the CCITT core (rules R152, R153, R155, R156). -/

/-- The byte step with its table index in arithmetic: the low byte of the accumulator XOR the byte (rule R153). -/
theorem ccittStep_eq (c : Half) (b : Byte) :
    ccittStep c b = (c >>> 8) ^^^ crom (BitVec.ofNat 8 (c.toNat % 256) ^^^ b) := by
  have low_byte : c.setWidth 8 = BitVec.ofNat 8 (c.toNat % 256) := by
    apply BitVec.eq_of_toNat_eq
    simp
  have operand : (b.setWidth 16 : Half).setWidth 8 = b := by simp
  rw [ccittStep, BitVec.setWidth_xor, low_byte, operand]

theorem exec_ccittBegin (s : State) : exec .ccittBegin s = .next { s with cacc := 0xFFFF, csess := true } :=
  exec_of_runs rfl

theorem exec_ccittByte_of_not_csess {s : State} (closed : s.csess = false) (b : Byte) :
    exec (.ccittByte b) s = .next (raiseError .noSession (encode (.ccittByte b)) s) := by
  simp [exec_eq, commandError, closed]

theorem exec_ccittByte_of_csess {s : State} (opened : s.csess = true) (b : Byte) :
    exec (.ccittByte b) s = .next { s with cacc := ccittStep s.cacc b } := by
  simp [exec_eq, commandError, effect, opened]

theorem exec_ccittEndRaw_of_not_csess {s : State} (closed : s.csess = false) :
    exec .ccittEndRaw s = .next (raiseError .noSession (encode .ccittEndRaw) s) := by
  simp [exec_eq, commandError, closed]

theorem exec_ccittEndRaw_of_csess {s : State} (opened : s.csess = true) :
    exec .ccittEndRaw s = .next { s with cresult := s.cacc, csess := false } := by
  simp [exec_eq, commandError, effect, opened]

theorem exec_ccittEndFinal_of_not_csess {s : State} (closed : s.csess = false) :
    exec .ccittEndFinal s = .next (raiseError .noSession (encode .ccittEndFinal) s) := by
  simp [exec_eq, commandError, closed]

theorem exec_ccittEndFinal_of_csess {s : State} (opened : s.csess = true) :
    exec .ccittEndFinal s = .next { s with cresult := s.cacc ^^^ 0xFFFF, csess := false } := by
  simp [exec_eq, commandError, effect, opened]

/-! `CCITT_RAW buf` and `CCITT_FINAL buf` (rules R88, R157). -/

theorem step_of_ccittBegin_line {s : State} {rest : List HostEvent}
    (pending : s.inbox = (HostLine.cmd .ccittBegin).event :: rest) :
    step s = .next { s.answered rest .done with cacc := 0xFFFF, csess := true } :=
  (step_of_command_line pending rfl).trans (exec_ccittBegin _)

theorem step_of_ccittByte_line {s : State} {b : Byte} {rest : List HostEvent}
    (pending : s.inbox = (HostLine.cmd (.ccittByte b)).event :: rest) (opened : s.csess = true) :
    step s = .next { s.answered rest .done with cacc := ccittStep s.cacc b } :=
  (step_of_command_line pending rfl).trans (exec_ccittByte_of_csess (s := s.answered rest .done) opened b)

/-- In a CCITT session, `CCITT_STR buf` mixes the buffer into CACC, each byte answered (rule R153). -/
theorem runSteps_ccittBytes {buf : List Byte} {s : State} {rest : List HostEvent} (opened : s.csess = true)
    (pending : s.inbox = hostEvents (ccittBytes buf) ++ rest) :
    runSteps buf.length s = .next { s with
      cacc := buf.foldl ccittStep s.cacc
      inbox := rest
      outbox := s.outbox ++ List.replicate buf.length .done } := by
  induction buf generalizing s with
  | nil =>
    have no_access : s.inbox = rest := pending
    simp [← no_access]
  | cons b buf ih =>
    rw [List.length_cons, runSteps_of_step (step_of_ccittByte_line pending opened), ih ?_ rfl]
    · simp [State.answered, List.replicate_succ]
    · exact opened

/-- The whole state after a program that mixes `buf` and ends with `finish`, a command that closes the session and
writes CRESULT as `f` of CACC: the two programs differ in it alone. -/
theorem runSteps_ccittProgram {finish : Instr} {f : Half → Half} (wf : finish.WellFormed)
    (finishes : ∀ s : State, s.csess = true → exec finish s = .next { s with cresult := f s.cacc, csess := false })
    {buf : List Byte} {s : State} {rest : List HostEvent}
    (pending : s.inbox =
      hostEvents (.cmd .ccittBegin :: (ccittBytes buf ++ [.cmd finish, .rd (.reg .cresult)])) ++ rest) :
    runSteps (buf.length + 3) s = .next { s with
      cacc := buf.foldl ccittStep 0xFFFF
      cresult := f (buf.foldl ccittStep 0xFFFF)
      csess := false
      inbox := rest
      outbox := s.outbox ++ List.replicate (buf.length + 2) .done ++
        [.data ((f (buf.foldl ccittStep 0xFFFF)).setWidth 32)] } := by
  rw [hostEvents_cons, hostEvents_append, List.cons_append, List.append_assoc] at pending
  have responses : List.replicate (buf.length + 2) Response.done =
      .done :: (List.replicate buf.length .done ++ [.done]) := by
    rw [List.replicate_succ, List.replicate_succ']
  rw [runSteps_of_step (step_of_ccittBegin_line pending), runSteps_add (runSteps_ccittBytes rfl rfl),
    runSteps_of_step ((step_of_command_line rfl wf).trans (finishes _ rfl)),
    runSteps_of_step (step_of_register_read rfl), runSteps_zero]
  simp [State.answered, readReg, responses]

/-! The CCITT core is apart from the rest of the block (rules R154, R158). -/

/-- `s` with the CCITT core of `u`. -/
def State.withCoreOf (s u : State) : State := { s with cacc := u.cacc, cresult := u.cresult, csess := u.csess }

theorem withCoreOf_eq_self {s u : State} (cacc : s.cacc = u.cacc) (cresult : s.cresult = u.cresult)
    (csess : s.csess = u.csess) : s.withCoreOf u = s := by
  rw [State.withCoreOf, ← cacc, ← cresult, ← csess]

theorem raiseError_withCoreOf (c : ErrCode) (info : Word) (s u : State) :
    raiseError c info (s.withCoreOf u) = (raiseError c info s).withCoreOf u := by
  by_cases recorded : s.err = .none
  · rw [raiseError_of_none recorded, raiseError_of_none (s := s.withCoreOf u) recorded]
    rfl
  · rw [raiseError_of_recorded recorded, raiseError_of_recorded (s := s.withCoreOf u) recorded]

theorem commandError_engine_withCoreOf {i : Instr} (engine : isEngine i = true) (s u : State) :
    commandError i (s.withCoreOf u) = commandError i s := by
  cases i with
  | reflect _ | configure | crcBegin | crcByte _ | crcEnd => rfl
  | _ => nomatch engine

/-- The effect of an engine command neither reads nor changes the CCITT core. -/
theorem effect_engine_withCoreOf {i : Instr} (engine : isEngine i = true) (s u : State) :
    effect i (s.withCoreOf u) = (effect i s).withCoreOf u := by
  cases i with
  | reflect _ | configure | crcBegin | crcByte _ | crcEnd => rfl
  | _ => nomatch engine

theorem exec_engine_withCoreOf {i : Instr} (engine : isEngine i = true) {s t : State} (executed : exec i s = .next t)
    (u : State) : exec i (s.withCoreOf u) = .next (t.withCoreOf u) := by
  by_cases runs : commandError i s = .none
  · rw [exec_of_runs runs] at executed
    cases executed
    rw [exec_of_runs ((commandError_engine_withCoreOf engine s u).trans runs), effect_engine_withCoreOf engine]
  · rw [exec_of_error runs] at executed
    cases executed
    rw [exec_eq, commandError_engine_withCoreOf engine, if_neg runs, raiseError_withCoreOf]

theorem commandError_ccitt_withCoreOf {j : Instr} (ccitt : isCcitt j = true) (s u : State) :
    commandError j (s.withCoreOf u) = commandError j u := by
  cases j with
  | ccittBegin | ccittByte _ | ccittEndRaw | ccittEndFinal => rfl
  | _ => nomatch ccitt

/-- The effect of a CCITT command reads and changes nothing but the CCITT core. -/
theorem effect_ccitt_withCoreOf {j : Instr} (ccitt : isCcitt j = true) (s u : State) :
    effect j (s.withCoreOf u) = s.withCoreOf (effect j u) := by
  cases j with
  | ccittBegin | ccittByte _ | ccittEndRaw | ccittEndFinal => rfl
  | _ => nomatch ccitt

/-! Two commands on the two sides commute (rules R140, R158). -/

section
variable {i j : Instr} (engine : isEngine i = true) (ccitt : isCcitt j = true)
include engine ccitt

/-- An engine command's effect on the engine and a CCITT command's effect on the core, side by side. -/
theorem effect_ccitt_effect_engine (s : State) : effect j (effect i s) = (effect i s).withCoreOf (effect j s) := by
  calc effect j (effect i s)
      = effect j ((effect i s).withCoreOf s) := by rw [← effect_engine_withCoreOf engine]; rfl
    _ = (effect i s).withCoreOf (effect j s) := effect_ccitt_withCoreOf ccitt _ _

theorem effect_engine_effect_ccitt (s : State) : effect i (effect j s) = (effect i s).withCoreOf (effect j s) := by
  calc effect i (effect j s)
      = effect i (s.withCoreOf (effect j s)) := by rw [← effect_ccitt_withCoreOf ccitt]; rfl
    _ = (effect i s).withCoreOf (effect j s) := effect_engine_withCoreOf engine _ _

theorem commandError_ccitt_effect_engine (s : State) : commandError j (effect i s) = commandError j s := by
  calc commandError j (effect i s)
      = commandError j ((effect i s).withCoreOf s) := by rw [← effect_engine_withCoreOf engine]; rfl
    _ = commandError j s := commandError_ccitt_withCoreOf ccitt _ _

theorem commandError_engine_effect_ccitt (s : State) : commandError i (effect j s) = commandError i s := by
  calc commandError i (effect j s)
      = commandError i (s.withCoreOf (effect j s)) := by rw [← effect_ccitt_withCoreOf ccitt]; rfl
    _ = commandError i s := commandError_engine_withCoreOf engine _ _

end

/-- The two commands complete in either order, in the same state. -/
def CommandsCommute (i j : Instr) (s : State) : Prop :=
  ∃ a b t, exec i s = .next a ∧ exec j s = .next b ∧ exec j a = .next t ∧ exec i b = .next t

theorem CommandsCommute.symm {i j : Instr} {s : State} (commute : CommandsCommute i j s) : CommandsCommute j i s := by
  obtain ⟨a, b, t, first_i, first_j, then_j, then_i⟩ := commute
  exact ⟨b, a, t, first_j, first_i, then_i, then_j⟩

/-- A command that runs commutes with one that errs, if it leaves the other its error. -/
theorem commute_of_runs_of_error {i j : Instr} {s : State} (not_clrerr : i ≠ .clrerr)
    (runs : commandError i s = .none) (error : commandError j s ≠ .none)
    (kept : commandError j (effect i s) = commandError j s) : CommandsCommute i j s := by
  refine ⟨_, _, _, exec_of_runs runs, exec_of_error error, exec_of_error (kept.trans_ne error), ?_⟩
  rw [exec_of_runs (by rwa [commandError_raiseError]), effect_raiseError not_clrerr, kept]

/-- A command that errs when an error is recorded changes nothing (rule R182). -/
theorem exec_of_error_of_recorded {i : Instr} {s : State} (error : commandError i s ≠ .none)
    (recorded : s.err ≠ .none) : exec i s = .next s := by
  rw [exec_of_error error, raiseError_of_recorded recorded]

theorem commute_of_errors_of_recorded {i j : Instr} {s : State} (error_i : commandError i s ≠ .none)
    (error_j : commandError j s ≠ .none) (recorded : s.err ≠ .none) : CommandsCommute i j s :=
  have unchanged_i := exec_of_error_of_recorded error_i recorded
  have unchanged_j := exec_of_error_of_recorded error_j recorded
  ⟨s, s, s, unchanged_i, unchanged_j, unchanged_j, unchanged_i⟩

end Sys2Proof.Machine

namespace Sys2Proof.Ccitt
open Sys2Proof.Machine

/-- Settles O14: CCITT_BEGIN meets no error. -/
theorem ccittBeginSeedsAndOpens : Obligations.CcittBeginSeedsAndOpens :=
  ⟨rfl, exec_ccittBegin⟩

/-- Settles O15, by CSESS, with the byte step in arithmetic. -/
theorem ccittByteMixesOneByte : Obligations.CcittByteMixesOneByte := by
  refine fun b => ⟨commandWord_toNat 0 b 0x31, fun s =>
    ⟨fun closed => exec_ccittByte_of_not_csess closed b, fun opened => ?_⟩⟩
  rw [exec_ccittByte_of_csess opened, ccittStep_eq]

/-- Settles O16, by CSESS. -/
theorem ccittEndRawWritesCacc : Obligations.CcittEndRawWritesCacc :=
  ⟨rfl, fun _ => ⟨exec_ccittEndRaw_of_not_csess, exec_ccittEndRaw_of_csess⟩⟩

/-- Settles O17, by CSESS. -/
theorem ccittEndFinalWritesInvertedCacc : Obligations.CcittEndFinalWritesInvertedCacc :=
  ⟨rfl, fun _ => ⟨exec_ccittEndFinal_of_not_csess, exec_ccittEndFinal_of_csess⟩⟩

/-- Settles O31: both are CCITT_BEGIN, the bytes, an END command and the read of CRESULT. -/
theorem ccittProgramsComputeTheChecksums : Obligations.CcittProgramsComputeTheChecksums := fun _ _ _ =>
  ⟨runSteps_ccittProgram (f := id) rfl fun _ => exec_ccittEndRaw_of_csess,
    runSteps_ccittProgram (f := (· ^^^ 0xFFFF)) rfl fun _ => exec_ccittEndFinal_of_csess⟩

/-- Settles O55: `s` is `s` with the CCITT core of `t`, so a command that runs leaves `s` with the core it leaves `t`;
one that errs records it and leaves the rest. -/
theorem ccittCommandsIgnoreTheEngine : Obligations.CcittCommandsIgnoreTheEngine := by
  intro j s t s' t' ccitt cacc cresult csess executed executed_t
  have shared : s.withCoreOf t = s := withCoreOf_eq_self cacc cresult csess
  have same_error : commandError j s = commandError j t := by
    rw [← shared, commandError_ccitt_withCoreOf ccitt]
  by_cases runs : commandError j t = .none
  · rw [exec_of_runs (same_error.trans runs), ← shared, effect_ccitt_withCoreOf ccitt] at executed
    rw [exec_of_runs runs] at executed_t
    cases executed
    cases executed_t
    exact ⟨⟨rfl, rfl, rfl⟩, rfl, rfl, rfl, rfl, rfl, rfl, rfl, rfl, rfl, rfl, rfl⟩
  · rw [exec_of_error (same_error.trans_ne runs)] at executed
    rw [exec_of_error runs] at executed_t
    cases executed
    cases executed_t
    simp [cacc, cresult, csess]

/-- Settles O56: executing on `s` with another CCITT core answers `t` with that core; with its own core, `t` has the
core of `s`. -/
theorem engineCommandsIgnoreTheCcittCore : Obligations.EngineCommandsIgnoreTheCcittCore := by
  intro i s t c r f engine executed
  have core_kept : t = t.withCoreOf s := by
    have again := exec_engine_withCoreOf engine executed s
    rw [withCoreOf_eq_self rfl rfl rfl, executed] at again
    injection again
  refine ⟨?_, exec_engine_withCoreOf engine executed { s with cacc := c, cresult := r, csess := f }⟩
  rw [core_kept]
  exact ⟨rfl, rfl, rfl⟩

/-- Settles O57: the two effects touch different parts of the state, and recording an error is apart from both. -/
theorem engineAndCcittCommandsCommute : Obligations.EngineAndCcittCommandsCommute := by
  intro i j s engine ccitt one_error
  change CommandsCommute i j s
  have engine_not_clrerr : i ≠ .clrerr := by rintro rfl; nomatch engine
  have ccitt_not_clrerr : j ≠ .clrerr := by rintro rfl; nomatch ccitt
  have kept_i := commandError_engine_effect_ccitt engine ccitt s
  have kept_j := commandError_ccitt_effect_engine engine ccitt s
  by_cases runs_i : commandError i s = .none <;> by_cases runs_j : commandError j s = .none
  · refine ⟨_, _, _, exec_of_runs runs_i, exec_of_runs runs_j, exec_of_runs (kept_j.trans runs_j), ?_⟩
    rw [exec_of_runs (kept_i.trans runs_i), effect_engine_effect_ccitt engine ccitt,
      effect_ccitt_effect_engine engine ccitt]
  · exact commute_of_runs_of_error engine_not_clrerr runs_i runs_j kept_j
  · exact (commute_of_runs_of_error ccitt_not_clrerr runs_j runs_i kept_i).symm
  · have recorded : s.err ≠ .none := by simpa [runs_i, runs_j] using one_error
    exact commute_of_errors_of_recorded runs_i runs_j recorded

end Sys2Proof.Ccitt
end

section
/-! PROOFS. The system command CLRERR (rule R170). -/

namespace Sys2Proof.Machine

/-- CLRERR meets no error in any state (rule R170). -/
theorem exec_clrerr (s : State) : exec .clrerr s = .next (clearError s) :=
  exec_of_runs rfl

end Sys2Proof.Machine

namespace Sys2Proof.System
open Sys2Proof.Machine

/-- Settles O6: `0x00000101` has CLRERR's opcode, of format C0, and a byte field that is not zero (rules R83, R85). -/
theorem clrerrClearsErrAndErrinfo : Obligations.ClrerrClearsErrAndErrinfo := by
  have malformed : decode 0x00000101 = none :=
    (decode_eq_none_iff _).2 (.inr (.inr (.inl ⟨by decide, .inl (by decide)⟩)))
  exact ⟨rfl, malformed, exec_clrerr⟩

end Sys2Proof.System
end

section
/-! PROOFS. Errors: what a command that meets one and a command that meets none leave, and what every step
takes and answers (rules R180 to R184, R188, R196). -/

namespace Sys2Proof.Machine

/-! The codes (rule R180). -/

/-- A code is its error's place in the table. -/
theorem ErrCode.ofNat_code (c : ErrCode) : ErrCode.ofNat c.code.toNat = c := by
  cases c <;> rfl

theorem ErrCode.code_injective : Function.Injective ErrCode.code :=
  Function.LeftInverse.injective (g := fun b : Byte => ErrCode.ofNat b.toNat) ErrCode.ofNat_code

/-! What a command leaves of the host's side and of a recorded error (rules R182, R184). -/

/-- Only CLRERR's effect touches ERR and ERRINFO (rule R188). -/
theorem effect_error_frame {i : Instr} (other : i ≠ .clrerr) (s : State) :
    (effect i s).err = s.err ∧ (effect i s).errinfo = s.errinfo := by
  cases i with
  | clrerr => exact absurd rfl other
  | _ => exact ⟨rfl, rfl⟩

/-- No command's effect touches what the host sends and sees. -/
theorem effect_host_frame (i : Instr) (s : State) :
    (effect i s).inbox = s.inbox ∧ (effect i s).outbox = s.outbox := by
  cases i <;> exact ⟨rfl, rfl⟩

/-- A command always completes, and answers nothing of its own (rule R183). -/
theorem exec_host_frame (i : Instr) (s : State) :
    ∃ t, exec i s = .next t ∧ t.inbox = s.inbox ∧ t.outbox = s.outbox := by
  by_cases runs : commandError i s = .none
  · exact ⟨_, exec_of_runs runs, effect_host_frame i s⟩
  · exact ⟨_, exec_of_error runs, raiseError_inbox .., raiseError_outbox ..⟩

/-! A step on a pending event (rules R71, R196, R210). -/

/-- A reset, alone or during an access, is applied (rule R210). -/
theorem step_of_reset {s : State} {e : HostEvent} {rest : List HostEvent} (pending : s.inbox = e :: rest)
    (reset : e.isReset = true) : step s = .next (applyReset { s with inbox := rest }) := by
  rw [step_of_inbox pending]
  cases e with
  | access a => nomatch reset
  | reset => rfl
  | resetDuring a => rfl

/-- An access is taken off and answered once, whatever it does to the block (rules R71, R183). -/
theorem step_of_access {s : State} {a : Access} {rest : List HostEvent} (pending : s.inbox = .access a :: rest) :
    ∃ t r, step s = .next t ∧ t.inbox = rest ∧ t.outbox = s.outbox ++ [r] := by
  rw [step_of_inbox pending]
  cases a with
  | read off size =>
    rcases performRead_cases off size s rest with ⟨-, v, -, -, answered⟩ | fault
    · exact ⟨_, .data v, answered, rfl, rfl⟩
    · exact ⟨_, .busErr, fault, raiseError_inbox .., raiseError_outbox ..⟩
  | write off size v =>
    rcases performWrite_cases off size v s rest with ⟨i, -, -, command⟩ | ⟨-, -, illegal⟩ | ⟨r, -, stored⟩ | fault
    · obtain ⟨t, executed, inbox, outbox⟩ := exec_host_frame i (s.answered rest .done)
      exact ⟨t, .done, command.trans executed, inbox, outbox⟩
    · exact ⟨_, .done, illegal, raiseError_inbox .., raiseError_outbox ..⟩
    · obtain ⟨-, -, -, -, -, -, -, -, -, -, -, -, -, inbox, outbox, -⟩ := storeReg_frame r v (s.answered rest .done)
      exact ⟨_, .done, stored, inbox, outbox⟩
    · exact ⟨_, .busErr, fault, raiseError_inbox .., raiseError_outbox ..⟩

end Sys2Proof.Machine

namespace Sys2Proof.Exceptions
open Sys2Proof.Machine

/-- Settles O34: a command that meets no error has its effect, which touches ERR and ERRINFO only in CLRERR. -/
theorem commandsReportOneErrorAndAreOtherwiseClean : Obligations.CommandsReportOneErrorAndAreOtherwiseClean :=
  fun i s => ⟨exec_of_error, fun runs =>
    ⟨effect i s, exec_of_runs runs, fun other => effect_error_frame other s, effect_host_frame i s⟩⟩

/-- Settles O38, by the oldest pending event. -/
theorem everyStepAnswersANextState : Obligations.EveryStepAnswersANextState := by
  intro s
  cases pending : s.inbox with
  | nil => exact ⟨s, step_of_idle pending, pending, nofun, nofun⟩
  | cons e rest =>
    cases e with
    | access a =>
      obtain ⟨t, r, stepped, inbox, outbox⟩ := step_of_access pending
      exact ⟨t, stepped, inbox, fun _ _ _ => ⟨r, outbox⟩, by rintro _ _ ⟨⟩ ⟨⟩⟩
    | reset => exact ⟨_, step_of_reset pending rfl, rfl, nofun, fun _ _ _ _ => rfl⟩
    | resetDuring a => exact ⟨_, step_of_reset pending rfl, rfl, nofun, fun _ _ _ _ => rfl⟩

/-- Settles O33: `raiseError` makes the rule's own test (rule R182). -/
theorem raiseRecordsOnlyTheFirstError : Obligations.RaiseRecordsOnlyTheFirstError :=
  fun _ _ _ => rfl

/-- Settles O35: an error can be read back from its code. -/
theorem errorCodesOfTheTable : Obligations.ErrorCodesOfTheTable :=
  ⟨rfl, rfl, rfl, rfl, rfl, rfl, rfl, fun _ _ same => ErrCode.code_injective same⟩

end Sys2Proof.Exceptions
end

section
/-! PROOFS. A recorded error stays, over a step and over a run, until a reset or CLRERR (rules R182, R183, R185). -/

namespace Sys2Proof.Machine

/-- A run of `k` steps takes off the `k` oldest pending events. -/
theorem runSteps_inbox {k : Nat} {s t : State} (run : runSteps k s = .next t) : t.inbox = s.inbox.drop k := by
  induction k generalizing s with
  | zero =>
    injection run with same
    rw [← same, List.drop_zero]
  | succ k ih =>
    obtain ⟨u, stepped, inbox, -⟩ := Exceptions.everyStepAnswersANextState s
    rw [runSteps_of_step stepped] at run
    rw [ih run, inbox, List.drop_tail]

/-- The event is neither a reset nor the write of CLRERR's word to CMD. -/
def HostEvent.KeepsError (e : HostEvent) : Prop := e.isReset = false ∧ e ≠ .access (.write 0x000 4 0x00000001)

/-- A step on such an event keeps a recorded error: a later one is not recorded, and CLRERR's effect is out. -/
theorem step_keeps_recorded_error {s t : State} {e : HostEvent} {rest : List HostEvent}
    (pending : s.inbox = e :: rest) (stepped : step s = .next t) (keeps : e.KeepsError) (recorded : s.err ≠ .none) :
    t.err = s.err ∧ t.errinfo = s.errinfo := by
  obtain ⟨not_reset, not_clrerr⟩ := keeps
  rcases step_cases pending stepped with ⟨reset, -⟩ | ⟨r, rfl⟩ | ⟨c, info, r, -, rfl⟩ | ⟨r, v, rfl⟩ |
    ⟨w, i, rfl, decoded, -, rfl⟩
  · simp [not_reset] at reset
  · exact ⟨rfl, rfl⟩
  · rw [raiseError_of_recorded (s := s.answered rest r) recorded]
    exact ⟨rfl, rfl⟩
  · obtain ⟨-, -, -, -, -, -, -, -, -, -, -, err, errinfo, -⟩ := storeReg_frame r v (s.answered rest .done)
    exact ⟨err, errinfo⟩
  · have other : i ≠ .clrerr := by
      rintro rfl
      rw [← encode_of_decode decoded] at not_clrerr
      exact not_clrerr rfl
    exact effect_error_frame other _

/-- So does a run on such events. -/
theorem runSteps_keeps_recorded_error {k : Nat} {s t : State} (keeps : ∀ e ∈ s.inbox.take k, e.KeepsError)
    (recorded : s.err ≠ .none) (run : runSteps k s = .next t) : t.err = s.err ∧ t.errinfo = s.errinfo := by
  induction k generalizing s with
  | zero =>
    injection run with same
    exact same ▸ ⟨rfl, rfl⟩
  | succ k ih =>
    obtain ⟨u, stepped, inbox, -⟩ := Exceptions.everyStepAnswersANextState s
    rw [runSteps_of_step stepped] at run
    cases pending : s.inbox with
    | nil =>
      rw [step_of_idle pending] at stepped
      injection stepped with same
      exact ih (by simp [pending]) recorded (same ▸ run)
    | cons e rest =>
      rw [pending, List.take_succ_cons, List.forall_mem_cons] at keeps
      obtain ⟨keeps_first, keeps_rest⟩ := keeps
      obtain ⟨err, errinfo⟩ := step_keeps_recorded_error pending stepped keeps_first recorded
      rw [pending, List.tail_cons] at inbox
      rw [← err, ← errinfo]
      exact ih (inbox ▸ keeps_rest) (err ▸ recorded) run

end Sys2Proof.Machine

namespace Sys2Proof.Exceptions
open Sys2Proof.Machine

/-- Settles O36, by what a step can do. -/
theorem recordedErrorIsSticky : Obligations.RecordedErrorIsSticky :=
  fun _ _ _ _ pending stepped not_reset not_clrerr recorded =>
    step_keeps_recorded_error pending stepped ⟨not_reset, not_clrerr⟩ recorded

/-- Settles O37: an error recorded after `j` steps would still be recorded at the end. -/
theorem cleanRunRaisedNoError : Obligations.CleanRunRaisedNoError := by
  rintro k s t ⟨-, run, clean_end⟩ keeps j u j_le run_j
  by_contra recorded
  have run_rest : runSteps (k - j) u = .next t := by
    rw [← runSteps_add run_j, Nat.add_sub_cancel' j_le, run]
  have keeps_rest : ∀ e ∈ u.inbox.take (k - j), e.KeepsError := by
    rw [runSteps_inbox run_j, ← List.drop_take]
    exact fun e mem => keeps e (List.mem_of_mem_drop mem)
  obtain ⟨err, -⟩ := runSteps_keeps_recorded_error keeps_rest recorded run_rest
  exact recorded (err ▸ clean_end)

end Sys2Proof.Exceptions
end

section
/-! PROOFS. The reset event: the state it leaves, field by field (rules R39, R210). -/

namespace Sys2Proof.Reset
open Sys2Proof.Machine

/-- Settles O48: a step on a reset is `applyReset`, whose TABLE holds the next free contents. -/
theorem resetEventGivesTheResetState : Obligations.ResetEventGivesTheResetState :=
  fun s _ _ reset pending =>
    ⟨unspecifiedContents s.unspecCount, s.unspecCount + 1, step_of_reset pending reset⟩

end Sys2Proof.Reset
end
